-- ==== Sys2Proof/Word.lean ====
section
/-! DEFINITION. The machine's words and addresses (`00_scope.md` R11, R12; `20_memory.md` R50). -/

namespace Sys2Proof

/-- A word of the machine: 18 bits, bit 0 the least significant, bit 17 the sign (R11, R50). -/
abbrev Word := BitVec 18

/-- A memory address: 16 bits, of which 15:12 name the field and 11:0 the word in the field (R50). -/
abbrev Addr := BitVec 16

/-- `DMASK`, all 18 bits; also the minus-zero pattern (R12). -/
def dmask : Word := 0o777777#18

/-- `EPCMASK`, the four field-select bits of an address (R12). -/
def epcmask : Addr := 0o170000#16

end Sys2Proof
end

