-- ==== Sys2Proof/Syntax.lean ====
section
/-! DEFINITION. The instructions: one constructor for each row of the opcode table
(`30_encoding.md` R72 to R78, R80), with the fields that the row's word carries. -/

namespace Sys2Proof

/-- The condition bits of a skip word (`30_encoding.md` R73). -/
structure SkipBits where
  /-- bit 12: invert the result -/
  inv : Bool
  /-- bit 11: IO is not 0 (PDP-1D) -/
  sni : Bool
  /-- bit 10: IO sign is 0 -/
  spi : Bool
  /-- bit 9: OV is 0, and OV is cleared afterwards -/
  szo : Bool
  /-- bit 8: AC sign is 1 -/
  sma : Bool
  /-- bit 7: AC sign is 0 -/
  spa : Bool
  /-- bit 6: AC is 0 -/
  sza : Bool
  /-- bits 5:3: sense-switch selector -/
  sw : BitVec 3
  /-- bits 2:0: program-flag selector -/
  fl : BitVec 3
  deriving DecidableEq, Repr

/-- The micro-operation bits of an operate word (`30_encoding.md` R77). -/
structure OprBits where
  /-- bit 12: no micro-operation; kept so that no bit of the word is lost -/
  unused : Bool
  /-- bit 11: IO <- 0 -/
  cli : Bool
  /-- bit 10: OR in the test word -/
  lat : Bool
  /-- bit 9: complement AC -/
  cma : Bool
  /-- bit 8: halt -/
  hlt : Bool
  /-- bit 7: AC <- 0 -/
  cla : Bool
  /-- bit 6: OR in the packed PC word -/
  lap : Bool
  /-- bit 5: AC <- old IO (PDP-1D) -/
  lai : Bool
  /-- bit 4: IO <- AC (PDP-1D) -/
  lia : Bool
  /-- bit 3: set (1) or clear (0) the selected flags -/
  set : Bool
  /-- bits 2:0: program-flag selector -/
  fl : BitVec 3
  deriving DecidableEq, Repr

/-- The instructions. In a memory reference `ind` is the indirect flag (bit 12) and `y` the address
field (bits 11:0); in an I/O transfer `w` is the wait bit (12), `c` the completion bit (11), `sub`
the sub-opcode (10:6) and `dev` the device address (5:0). -/
inductive Instr where
  | undef0 (bits : BitVec 13)
  | and (ind : Bool) (y : BitVec 12)
  | ior (ind : Bool) (y : BitVec 12)
  | xor (ind : Bool) (y : BitVec 12)
  | xct (ind : Bool) (y : BitVec 12)
  | lch (auto : Bool) (y : BitVec 12)
  | dch (auto : Bool) (y : BitVec 12)
  | cal (y : BitVec 12)
  | jda (y : BitVec 12)
  | lac (ind : Bool) (y : BitVec 12)
  | lio (ind : Bool) (y : BitVec 12)
  | dac (ind : Bool) (y : BitVec 12)
  | dap (ind : Bool) (y : BitVec 12)
  | dip (ind : Bool) (y : BitVec 12)
  | dio (ind : Bool) (y : BitVec 12)
  | dzm (ind : Bool) (y : BitVec 12)
  | tad (ind : Bool) (y : BitVec 12)
  | add (ind : Bool) (y : BitVec 12)
  | sub (ind : Bool) (y : BitVec 12)
  | idx (ind : Bool) (y : BitVec 12)
  | isp (ind : Bool) (y : BitVec 12)
  | sad (ind : Bool) (y : BitVec 12)
  | sas (ind : Bool) (y : BitVec 12)
  | mul (ind : Bool) (y : BitVec 12)
  | mus (ind : Bool) (y : BitVec 12)
  | div (ind : Bool) (y : BitVec 12)
  | dis (ind : Bool) (y : BitVec 12)
  | jmpDismiss (l : BitVec 4)
  | jmp (ind : Bool) (y : BitVec 12)
  | jsp (ind : Bool) (y : BitVec 12)
  | skp (b : SkipBits)
  | ral (code : BitVec 9)
  | ril (code : BitVec 9)
  | rcl (code : BitVec 9)
  | sal (code : BitVec 9)
  | sil (code : BitVec 9)
  | scl (code : BitVec 9)
  | rar (code : BitVec 9)
  | rir (code : BitVec 9)
  | rcr (code : BitVec 9)
  | sar (code : BitVec 9)
  | sir (code : BitVec 9)
  | scr (code : BitVec 9)
  | sftUndef00 (code : BitVec 9)
  | sftUndef04 (code : BitVec 9)
  | sftUndef10 (code : BitVec 9)
  | sftUndef14 (code : BitVec 9)
  | law (c : Bool) (n : BitVec 12)
  | rngClr (w c : Bool) (sub : BitVec 5)
  | rngSet (w c : Bool) (sub : BitVec 5)
  | rtb (w c : Bool) (sub : BitVec 5)
  | dsc (w c : Bool) (sub : BitVec 5)
  | asc (w c : Bool) (sub : BitVec 5)
  | isb (w c : Bool) (sub : BitVec 5)
  | cac (w c : Bool) (sub : BitVec 5)
  | lsm (w c : Bool) (sub : BitVec 5)
  | esm (w c : Bool) (sub : BitVec 5)
  | cbs (w c : Bool) (sub : BitVec 5)
  | lrm (w c : Bool) (sub : BitVec 5)
  | erm (w c : Bool) (sub : BitVec 5)
  | rnm (w c : Bool) (sub : BitVec 5)
  | rsm (w c : Bool) (sub : BitVec 5)
  | lem (w : Bool) (sub : BitVec 5)
  | eem (w : Bool) (sub : BitVec 5)
  | iot (w c : Bool) (sub : BitVec 5) (dev : BitVec 6)
  | spc (bits : BitVec 13)
  | opr (b : OprBits)
  deriving DecidableEq, Repr

end Sys2Proof
end

