-- ==== Sys2Proof/WellFormed.lean ====
section
/-! DEFINITION. Which syntax terms stand for a word: a term is well formed when its word decodes to
it and to no row of the table that stands before it (`30_encoding.md`, the reading of the table). -/

namespace Sys2Proof

/-- The device codes whose pulses belong to the CORE, in any configuration of the straps
(`48_iot.md` R155). The table gives each its own row before the general IOT row. -/
def coreDevices : List (BitVec 6) :=
  [0o10#6, 0o11#6, 0o35#6, 0o50#6, 0o51#6, 0o52#6, 0o53#6, 0o54#6, 0o55#6, 0o56#6,
   0o64#6, 0o65#6, 0o66#6, 0o67#6, 0o74#6]

/-- The address fields of the dismissal form: `Y & 07703 = 1` (`44_jump_law.md` R121). -/
def isDismissalY (y : BitVec 12) : Bool := y &&& 0o7703#12 == 1#12

/-- Well-formedness under the strap `OPT_MDV` (`mdv`). The checks: a `jmp` must not carry the
dismissal pattern, an `iot` must not name a CORE device code, and of the two readings of opcodes 026
and 027 only the one the strap selects is an instruction of the machine. -/
def wellFormed (mdv : Bool) : Instr → Bool
  | .jmp ind y => !(ind && isDismissalY y)
  | .iot _ _ _ dev => !coreDevices.contains dev
  | .mul _ _ => mdv
  | .mus _ _ => !mdv
  | .div _ _ => mdv
  | .dis _ _ => !mdv
  | .undef0 _ | .and _ _ | .ior _ _ | .xor _ _ | .xct _ _ | .lch _ _ | .dch _ _ | .cal _ | .jda _ => true
  | .lac _ _ | .lio _ _ | .dac _ _ | .dap _ _ | .dip _ _ | .dio _ _ | .dzm _ _ => true
  | .tad _ _ | .add _ _ | .sub _ _ | .idx _ _ | .isp _ _ | .sad _ _ | .sas _ _ => true
  | .jmpDismiss _ | .jsp _ _ | .skp _ | .law _ _ => true
  | .ral _ | .ril _ | .rcl _ | .sal _ | .sil _ | .scl _ | .rar _ | .rir _ | .rcr _ | .sar _ | .sir _ | .scr _ => true
  | .sftUndef00 _ | .sftUndef04 _ | .sftUndef10 _ | .sftUndef14 _ => true
  | .rngClr _ _ _ | .rngSet _ _ _ | .rtb _ _ _ | .dsc _ _ _ | .asc _ _ _ | .isb _ _ _ | .cac _ _ _ => true
  | .lsm _ _ _ | .esm _ _ _ | .cbs _ _ _ | .lrm _ _ _ | .erm _ _ _ | .rnm _ _ _ | .rsm _ _ _ => true
  | .lem _ _ | .eem _ _ | .spc _ | .opr _ => true

end Sys2Proof
end

