-- ==== Sys2Proof/Decode.lean ====
section
/-! DEFINITION. The decoder and the encoder, both written from `30_encoding.md` R70 to R80 and the
formats there. Every 18-bit word decodes (R80 lists the undefined ones, which are rows of the table
too); what is no 18-bit word is rejected by name. -/

namespace Sys2Proof

/-- Why bits are no instruction. -/
inductive DecodeError where
  /-- the number does not fit in one 18-bit word (R70: every instruction is one word) -/
  | notAWord
  deriving DecidableEq, Repr

/-- The `n` bits of `w` from bit `lo` up (R11). -/
def bitField (w : Word) (lo n : Nat) : BitVec n := w.extractLsb' lo n

/-- The shift group, opcode 033 (R74). -/
def decodeShift (w : Word) : Instr :=
  let code := bitField w 0 9
  match (bitField w 9 4).toNat with
  | 0o00 => .sftUndef00 code
  | 0o01 => .ral code
  | 0o02 => .ril code
  | 0o03 => .rcl code
  | 0o04 => .sftUndef04 code
  | 0o05 => .sal code
  | 0o06 => .sil code
  | 0o07 => .scl code
  | 0o10 => .sftUndef10 code
  | 0o11 => .rar code
  | 0o12 => .rir code
  | 0o13 => .rcr code
  | 0o14 => .sftUndef14 code
  | 0o15 => .sar code
  | 0o16 => .sir code
  | _ => .scr code

/-- The I/O transfers, opcode 035 (R76): the CORE pulses stand before the general row (R155). -/
def decodeIot (w : Word) : Instr :=
  let wait := w.getLsbD 12
  let c := w.getLsbD 11
  let sub := bitField w 6 5
  match (bitField w 0 6).toNat with
  | 0o10 => .rngClr wait c sub
  | 0o11 => .rngSet wait c sub
  | 0o35 => .rtb wait c sub
  | 0o50 => .dsc wait c sub
  | 0o51 => .asc wait c sub
  | 0o52 => .isb wait c sub
  | 0o53 => .cac wait c sub
  | 0o54 => .lsm wait c sub
  | 0o55 => .esm wait c sub
  | 0o56 => .cbs wait c sub
  | 0o64 => .lrm wait c sub
  | 0o65 => .erm wait c sub
  | 0o66 => .rnm wait c sub
  | 0o67 => .rsm wait c sub
  | 0o74 => if c then .eem wait sub else .lem wait sub
  | _ => .iot wait c sub (bitField w 0 6)

/-- The condition bits of a skip word (R73). -/
def decodeSkip (w : Word) : SkipBits :=
  ⟨w.getLsbD 12, w.getLsbD 11, w.getLsbD 10, w.getLsbD 9, w.getLsbD 8, w.getLsbD 7, w.getLsbD 6,
   bitField w 3 3, bitField w 0 3⟩

/-- The micro-operation bits of an operate word (R77). -/
def decodeOpr (w : Word) : OprBits :=
  ⟨w.getLsbD 12, w.getLsbD 11, w.getLsbD 10, w.getLsbD 9, w.getLsbD 8, w.getLsbD 7, w.getLsbD 6,
   w.getLsbD 5, w.getLsbD 4, w.getLsbD 3, bitField w 0 3⟩

/-- The instruction a word stands for (R72), `mdv` being the strap `OPT_MDV`. -/
def decode (mdv : Bool) (w : Word) : Instr :=
  let ind := w.getLsbD 12
  let y := bitField w 0 12
  match (bitField w 13 5).toNat with
  | 0o00 => .undef0 (bitField w 0 13)
  | 0o01 => .and ind y
  | 0o02 => .ior ind y
  | 0o03 => .xor ind y
  | 0o04 => .xct ind y
  | 0o05 => .lch ind y
  | 0o06 => .dch ind y
  | 0o07 => if ind then .jda y else .cal y
  | 0o10 => .lac ind y
  | 0o11 => .lio ind y
  | 0o12 => .dac ind y
  | 0o13 => .dap ind y
  | 0o14 => .dip ind y
  | 0o15 => .dio ind y
  | 0o16 => .dzm ind y
  | 0o17 => .tad ind y
  | 0o20 => .add ind y
  | 0o21 => .sub ind y
  | 0o22 => .idx ind y
  | 0o23 => .isp ind y
  | 0o24 => .sad ind y
  | 0o25 => .sas ind y
  | 0o26 => if mdv then .mul ind y else .mus ind y
  | 0o27 => if mdv then .div ind y else .dis ind y
  | 0o30 => if ind && isDismissalY y then .jmpDismiss (bitField w 2 4) else .jmp ind y
  | 0o31 => .jsp ind y
  | 0o32 => .skp (decodeSkip w)
  | 0o33 => decodeShift w
  | 0o34 => .law ind y
  | 0o35 => decodeIot w
  | 0o36 => .spc (bitField w 0 13)
  | _ => .opr (decodeOpr w)

/-- The instruction a number stands for, or why it is none (R70). -/
def decodeBits (mdv : Bool) (n : Nat) : Except DecodeError Instr :=
  if n < 2 ^ 18 then .ok (decode mdv (BitVec.ofNat 18 n)) else .error .notAWord

/-- The decoder on a word of the opcode table. Where two rows share their words (MUL and MUS, DIV
and DIS) it answers for the machine of `State.reset`, whose `OPT_MDV` is true. The number of bits the
table gives the row plays no part: an instruction is one word. -/
def decodeTableWord (_nbits w : Nat) : Option Instr :=
  match decodeBits true w with
  | .ok i => some i
  | .error _ => none

/-! ### The encoder -/

/-- The `n` bits `v` put at bit `lo` of a word. -/
def placed (lo : Nat) {n : Nat} (v : BitVec n) : Word := v.setWidth 18 <<< lo

/-- The flag `b` put at bit `lo` of a word. -/
def placedBit (lo : Nat) (b : Bool) : Word := placed lo (BitVec.ofBool b)

/-- A memory reference, or any word of one flag and twelve low bits (R71, R75). -/
def wordMem (op : BitVec 5) (ind : Bool) (y : BitVec 12) : Word :=
  placed 13 op ||| placedBit 12 ind ||| placed 0 y

/-- A word of an opcode and thirteen low bits (R78, R80). -/
def wordRest (op : BitVec 5) (bits : BitVec 13) : Word := placed 13 op ||| placed 0 bits

/-- A shift word (R74). -/
def wordShift (sub : BitVec 4) (code : BitVec 9) : Word :=
  placed 13 0o33#5 ||| placed 9 sub ||| placed 0 code

/-- An I/O transfer word (R76). -/
def wordIot (w c : Bool) (sub : BitVec 5) (dev : BitVec 6) : Word :=
  placed 13 0o35#5 ||| placedBit 12 w ||| placedBit 11 c ||| placed 6 sub ||| placed 0 dev

/-- A skip word (R73). -/
def wordSkip (b : SkipBits) : Word :=
  placed 13 0o32#5 ||| placedBit 12 b.inv ||| placedBit 11 b.sni ||| placedBit 10 b.spi |||
    placedBit 9 b.szo ||| placedBit 8 b.sma ||| placedBit 7 b.spa ||| placedBit 6 b.sza |||
    placed 3 b.sw ||| placed 0 b.fl

/-- An operate word (R77). -/
def wordOpr (b : OprBits) : Word :=
  placed 13 0o37#5 ||| placedBit 12 b.unused ||| placedBit 11 b.cli ||| placedBit 10 b.lat |||
    placedBit 9 b.cma ||| placedBit 8 b.hlt ||| placedBit 7 b.cla ||| placedBit 6 b.lap |||
    placedBit 5 b.lai ||| placedBit 4 b.lia ||| placedBit 3 b.set ||| placed 0 b.fl

/-- The address field of the dismissal of level `l`: `4 * l + 1` (R121). -/
def dismissalY (l : BitVec 4) : BitVec 12 := l.setWidth 12 <<< 2 ||| 1#12

/-- The word of an instruction (R72 to R78). -/
def encode : Instr → Word
  | .undef0 bits => wordRest 0o00#5 bits
  | .and ind y => wordMem 0o01#5 ind y
  | .ior ind y => wordMem 0o02#5 ind y
  | .xor ind y => wordMem 0o03#5 ind y
  | .xct ind y => wordMem 0o04#5 ind y
  | .lch auto y => wordMem 0o05#5 auto y
  | .dch auto y => wordMem 0o06#5 auto y
  | .cal y => wordMem 0o07#5 false y
  | .jda y => wordMem 0o07#5 true y
  | .lac ind y => wordMem 0o10#5 ind y
  | .lio ind y => wordMem 0o11#5 ind y
  | .dac ind y => wordMem 0o12#5 ind y
  | .dap ind y => wordMem 0o13#5 ind y
  | .dip ind y => wordMem 0o14#5 ind y
  | .dio ind y => wordMem 0o15#5 ind y
  | .dzm ind y => wordMem 0o16#5 ind y
  | .tad ind y => wordMem 0o17#5 ind y
  | .add ind y => wordMem 0o20#5 ind y
  | .sub ind y => wordMem 0o21#5 ind y
  | .idx ind y => wordMem 0o22#5 ind y
  | .isp ind y => wordMem 0o23#5 ind y
  | .sad ind y => wordMem 0o24#5 ind y
  | .sas ind y => wordMem 0o25#5 ind y
  | .mul ind y => wordMem 0o26#5 ind y
  | .mus ind y => wordMem 0o26#5 ind y
  | .div ind y => wordMem 0o27#5 ind y
  | .dis ind y => wordMem 0o27#5 ind y
  | .jmpDismiss l => wordMem 0o30#5 true (dismissalY l)
  | .jmp ind y => wordMem 0o30#5 ind y
  | .jsp ind y => wordMem 0o31#5 ind y
  | .skp b => wordSkip b
  | .ral code => wordShift 0o01#4 code
  | .ril code => wordShift 0o02#4 code
  | .rcl code => wordShift 0o03#4 code
  | .sal code => wordShift 0o05#4 code
  | .sil code => wordShift 0o06#4 code
  | .scl code => wordShift 0o07#4 code
  | .rar code => wordShift 0o11#4 code
  | .rir code => wordShift 0o12#4 code
  | .rcr code => wordShift 0o13#4 code
  | .sar code => wordShift 0o15#4 code
  | .sir code => wordShift 0o16#4 code
  | .scr code => wordShift 0o17#4 code
  | .sftUndef00 code => wordShift 0o00#4 code
  | .sftUndef04 code => wordShift 0o04#4 code
  | .sftUndef10 code => wordShift 0o10#4 code
  | .sftUndef14 code => wordShift 0o14#4 code
  | .law c n => wordMem 0o34#5 c n
  | .rngClr w c sub => wordIot w c sub 0o10#6
  | .rngSet w c sub => wordIot w c sub 0o11#6
  | .rtb w c sub => wordIot w c sub 0o35#6
  | .dsc w c sub => wordIot w c sub 0o50#6
  | .asc w c sub => wordIot w c sub 0o51#6
  | .isb w c sub => wordIot w c sub 0o52#6
  | .cac w c sub => wordIot w c sub 0o53#6
  | .lsm w c sub => wordIot w c sub 0o54#6
  | .esm w c sub => wordIot w c sub 0o55#6
  | .cbs w c sub => wordIot w c sub 0o56#6
  | .lrm w c sub => wordIot w c sub 0o64#6
  | .erm w c sub => wordIot w c sub 0o65#6
  | .rnm w c sub => wordIot w c sub 0o66#6
  | .rsm w c sub => wordIot w c sub 0o67#6
  | .lem w sub => wordIot w false sub 0o74#6
  | .eem w sub => wordIot w true sub 0o74#6
  | .iot w c sub dev => wordIot w c sub dev
  | .spc bits => wordRest 0o36#5 bits
  | .opr b => wordOpr b

end Sys2Proof
end

