-- ==== Sys2Proof/Machine/Flags.lean ====
section
/-! DEFINITION. The arithmetic and every flag computation of the spec (`43_arith.md`, `45_skip.md` R126),
as functions of words. -/

namespace Sys2Proof.Machine

/-- Bit 17, the sign (R14). -/
def signOf (w : Word) : Bool := w.getLsbD 17

/-- `ABS(w)`: the magnitude of a one's-complement number (R14). -/
def absOf (w : Word) : Word := if signOf w then ~~~w else w

/-- One's-complement addition with end-around carry, before any cleanup (R106 step 1). -/
def endAroundAdd (a b : Word) : Word :=
  let s := a.toNat + b.toNat
  BitVec.ofNat 18 (if s > 0o777777 then s + 1 else s)

/-- Minus-zero cleanup: all ones becomes all zeros (R106 step 3). -/
def cleanMinusZero (w : Word) : Word := if w = dmask then 0#18 else w

/-- The overflow test of ADD and SUB: operands of one sign, result of the other (R106 step 2, R107). -/
def addOverflows (a b s : Word) : Bool := signOf ((~~~a ^^^ b) &&& (a ^^^ s))

/-- AC after ADD (R106). -/
def addResult (a b : Word) : Word := cleanMinusZero (endAroundAdd a b)

/-- Whether ADD sets OV (R106): the test sees the sum before the cleanup. -/
def addSetsOv (a b : Word) : Bool := addOverflows a b (endAroundAdd a b)

/-- AC after SUB: complement, add, complement, and no cleanup (R107). -/
def subResult (a b : Word) : Word := ~~~(endAroundAdd (~~~a) b)

/-- Whether SUB sets OV: the formula of ADD on the complemented accumulator (R107). -/
def subSetsOv (a b : Word) : Bool := addOverflows (~~~a) b (endAroundAdd (~~~a) b)

/-- The increment of IDX and ISP (R108): -1 goes to +0 and minus zero to +1. -/
def indexResult (m : Word) : Word :=
  let s := m.toNat + 1
  BitVec.ofNat 18 (if s ≥ 0o777777 then s + 1 else s)

/-- The 19-bit sum of TAD: AC, the operand and the link (R105). -/
def tadSum (a b : Word) (l : Bool) : BitVec 19 := a.setWidth 19 + b.setWidth 19 + (BitVec.ofBool l).setWidth 19

/-- One pass of the multiply loop on the pair AC, IO: add `v` if asked, then shift the pair right (R112, R113). -/
def shiftPairRight (ac io : Word) : Word × Word := (ac >>> 1, (io >>> 1) ||| (ac <<< 17))

/-- The 17 passes of the hardware multiply, `n` of them left (R112). -/
def mulLoop : Nat → Word → Word → Word → Word × Word
  | 0, _, ac, io => (ac, io)
  | n + 1, v, ac, io =>
    let p := shiftPairRight (if io.getLsbD 0 then ac + v else ac) io
    mulLoop n v p.1 p.2

/-- AC and IO after the hardware multiply of `ac` by `m` (R112). -/
def mulResult (ac m : Word) : Word × Word :=
  let p := mulLoop 17 (absOf m) 0#18 (absOf ac)
  if signOf (ac ^^^ m) && p.1 ||| p.2 != 0#18 then (~~~p.1, ~~~p.2) else p

/-- AC and IO after the multiply step (R113). -/
def musResult (ac io m : Word) : Word × Word :=
  shiftPairRight (if io.getLsbD 0 then addResult ac m else ac) io

/-- The passes of the hardware divide with `n` left: AC, IO and the sign `t` of the last pass (R114).
The last pass, the one with none left after it, does not shift AC. -/
def divLoop : Nat → Word → Word → Word → Bool → Word × Word × Bool
  | 0, _, ac, io, t => (ac, io, t)
  | n + 1, v, ac, io, t =>
    let d := if t then ac + v else ac - v
    let t' := signOf d
    divLoop n v (if n = 0 then d else (d <<< 1) ||| (io >>> 17))
      ((io <<< 1) ||| (BitVec.ofBool (!t')).setWidth 18) t'

/-- Whether the hardware divide overflows, a zero divisor among the cases (R114). -/
def divOverflows (ac m : Word) : Bool := decide (absOf m ≤ absOf ac)

/-- AC (the quotient) and IO (the remainder) after a hardware divide that does not overflow (R114). -/
def divResult (ac io m : Word) : Word × Word :=
  let v := absOf m
  let p := divLoop 18 v (if signOf ac then ~~~ac else ac) (if signOf ac then ~~~io else io) false
  let r := if p.2.2 then p.1 + v else p.1
  let q := p.2.1
  (if signOf (ac ^^^ m) && q != 0#18 then ~~~q else q, if signOf ac && r != 0#18 then ~~~r else r)

/-- AC and IO after the divide step (R115). -/
def disResult (ac io m : Word) : Word × Word :=
  let ac1 := (ac <<< 1) ||| (io >>> 17)
  let io1 := (io <<< 1) ||| (BitVec.ofBool (!signOf ac)).setWidth 18
  let s := if io1.getLsbD 0 then ac1.toNat + (~~~m).toNat else ac1.toNat + m.toNat + 1
  (cleanMinusZero (BitVec.ofNat 18 (if s > 0o777777 then s + 1 else s)), io1)

end Sys2Proof.Machine
end

