-- ==== Sys2Proof/Config.lean ====
section
/-! DEFINITION. What an implementation fixes: the straps of `00_scope.md` R7, the data that the
environment hands to the machine at its ports (R9), and the open functions of the spec, which have
no body here (R91, R147, R150). -/

namespace Sys2Proof

/-- Where the restrict-mode bank number starts in an address: `RM_BANK_SHIFT`, 12 or 14 (R7, R55). -/
inductive BankShift where
  | at12
  | at14
  deriving DecidableEq, Repr

/-- How many low bits DAP stores: `DAP_LOW_BITS`, 6 or 12 (R7, R100). -/
inductive DapWidth where
  | six
  | twelve
  deriving DecidableEq, Repr

/-- Which byte-pointer format LCH and DCH use (R91): the candidate of the rule, or the source's own,
which the spec leaves open (D40). -/
inductive CharFormat where
  | candidate
  | unspecified
  deriving DecidableEq, Repr

/-- The three flip-flops of the sequence-break system (`10_state.md` R32). -/
structure BreakFlipFlops where
  /-- sequence breaks are enabled -/
  on : Bool
  /-- a request is pending (1-channel) -/
  rq : Bool
  /-- a break is in progress (1-channel) -/
  ip : Bool
  deriving DecidableEq, Repr

/-- The straps (R7): fixed when the machine is built or sampled at reset; no instruction changes them. -/
structure Straps where
  /-- `OPT_1D` -/
  opt1d : Bool
  /-- `OPT_SBS16` -/
  sbs16 : Bool
  /-- `OPT_MDV` -/
  mdv : Bool
  /-- `stop_inst` -/
  stopInst : Bool
  /-- the highest 4096-word field present: `MEMSIZE = (topField + 1) * 4096` (D45) -/
  topField : Fin 16
  /-- `ind_max` -/
  indMax : Nat
  /-- `xct_max` -/
  xctMax : Nat
  /-- `RM_BANK_SHIFT` -/
  bankShift : BankShift
  /-- `DAP_LOW_BITS` -/
  dapWidth : DapWidth
  /-- `sbs_init` -/
  sbsInit : BreakFlipFlops
  /-- `extm_init` -/
  extmInit : Bool
  /-- `RTB_ILL`, bits 17:14 of it; the other fourteen are 0 (D13) -/
  codeIll : BitVec 4
  /-- `RTB_IOT`, bits 17:14 -/
  codeIot : BitVec 4
  /-- `RTB_HLT`, bits 17:14 -/
  codeHlt : BitVec 4
  /-- `RTB_CHR`, bits 17:14 -/
  codeChr : BitVec 4
  /-- the byte-pointer format -/
  charFormat : CharFormat
  deriving DecidableEq, Repr

/-- `MEMSIZE`, in words: a multiple of 4096 from 4096 to 65536 (R7, D45). -/
def Straps.memsize (c : Straps) : Nat := (c.topField.val + 1) * 4096

/-- The constraints on the straps that their types do not already carry: `ind_max >= 1` (R7), and
the four trap codes non-zero and pairwise different (R182). -/
def Straps.wf (c : Straps) : Bool :=
  decide (1 ≤ c.indMax) &&
  ((0#4 :: [c.codeIll, c.codeIot, c.codeHlt, c.codeChr]).Nodup : Bool)

/-- Why the machine stopped (`60_exceptions.md` R190). -/
inductive StopReason where
  /-- `STOP_RSRV`: an undefined instruction, with `stop_inst` -/
  | rsrv
  /-- `STOP_HALT`: the halt micro-operation -/
  | halt
  /-- `STOP_IBKPT`: a breakpoint -/
  | ibkpt
  /-- `STOP_XCT`: XCT nesting above `xct_max` -/
  | xct
  /-- `STOP_IND`: an indirect chain above `ind_max` -/
  | ind
  /-- `STOP_WAIT`: an I/O wait with nothing pending -/
  | wait
  /-- a reason given by a device or the environment, numbered `7 + code` -/
  | external (code : Nat)
  deriving DecidableEq, Repr

/-- The number of a stop reason (R190); no program can see it and no rule depends on it. -/
def StopReason.number : StopReason → Nat
  | .rsrv => 1
  | .halt => 2
  | .ibkpt => 3
  | .xct => 4
  | .ind => 5
  | .wait => 6
  | .external code => 7 + code

/-- What a device may do to the machine, in the hook or during a device call (R154, R171, R176, R57). -/
inductive PortAction where
  /-- `dev_req_int(level)` -/
  | breakRequest (level : BitVec 4)
  /-- DMA write of one word -/
  | dmaWrite (a : Addr) (v : Word)
  /-- DMA read of one word: no effect on the machine -/
  | dmaRead (a : Addr)
  /-- a device operation completes: the device leaves `cpls` and sets `ios` -/
  | complete (dev : BitVec 6)
  /-- a device starts to owe a completion: it enters `cpls` -/
  | owe (dev : BitVec 6)
  deriving DecidableEq, Repr

/-- A device's answer to an IOT (`48_iot.md` R150, R154). -/
structure DevAnswer where
  /-- a device answers this code -/
  present : Bool
  /-- the new IO -/
  ioIn : Word
  /-- skip the next instruction -/
  skip : Bool
  /-- force a stop -/
  stop : Option Nat
  /-- the call started an operation; it will complete if the word asks for a completion pulse -/
  starts : Bool
  /-- the device's use of the other ports during the call, in order -/
  ports : List PortAction
  deriving DecidableEq, Repr, Inhabited

/-- What special operate leaves (R147): AC, IO, PF, and whether it skips. -/
structure SpcResult where
  ac : Word
  io : Word
  pf : BitVec 8
  skip : Bool
  deriving DecidableEq, Repr, Inhabited

/-- FREE VALUE. The `n`-th answer of the devices that the state's list of answers does not hold
(R150: the answer is an input of the step, not computed by the CORE). -/
opaque Config.deviceAnswer (n : Nat) : DevAnswer

/-- FREE VALUE. The open function `spc_exec` of R147 (D39), on `IR[12:0]`, AC, IO, PF and PC. -/
opaque Config.spcExec (bits : BitVec 13) (ac io : Word) (pf : BitVec 8) (pc : Addr) : SpcResult

/-- FREE VALUE. The source's `bp_byte(p)` (R91, D40). -/
opaque Config.bpByte (p : Word) : BitVec 2

/-- FREE VALUE. The source's `bp_addr(p)` (R91, D40), which may read `extm` and PC. -/
opaque Config.bpAddr (extm : Bool) (pc : Addr) (p : Word) : Addr

/-- FREE VALUE. The source's `bp_incr(p, ring)` (R91, D40). -/
opaque Config.bpIncr (p : Word) (ring : Bool) : Word

/-- FREE VALUE. The source's `bp_pagecross(p)` (R91, D40). -/
opaque Config.bpPagecross (p : Word) : Bool

/-- FREE VALUE. The source's `ch_get(w, s)` (R91, D40). -/
opaque Config.chGet (w : Word) (s : Nat) : Word

/-- FREE VALUE. The source's `ch_put(w, s, c)` (R91, D40). -/
opaque Config.chPut (w : Word) (s : Nat) (c : Word) : Word

end Sys2Proof
end

