-- ==== Sys2Proof/Machine/State.lean ====
section
/-! DEFINITION. The machine's state (`10_state.md` R20 to R47): plain data, every piece the spec names
under its own name, the straps of `00_scope.md` R7, and the inputs that the environment, the devices
and the console hand to the machine (R9), as lists that the step reads. -/

namespace Sys2Proof.Machine

/-- Memory: the words that are not 0, each under its address, addresses strictly rising. The unit is
the 18-bit word: the machine has no smaller one (`20_memory.md` R50, R58). -/
abbrev Memory := List (Nat × Word)

/-- The run state (R46). -/
inductive RunState where
  | running
  /-- stopped, with the reason of the last `stop`, or none after reset -/
  | stopped (reason : Option StopReason)
  deriving DecidableEq, Repr

/-- The rename table `rname[0..3]` (R41). -/
structure RenameTable where
  r0 : BitVec 2
  r1 : BitVec 2
  r2 : BitVec 2
  r3 : BitVec 2
  deriving DecidableEq, Repr

/-- The identity table: `rname[i] = i` (R41). -/
def RenameTable.identity : RenameTable := ⟨0#2, 1#2, 2#2, 3#2⟩

/-- One thing the environment does in its hook (`60_exceptions.md` R171). -/
inductive HookAction where
  /-- a device uses one of its ports -/
  | port (a : PortAction)
  /-- the console moves the sense switches -/
  | senseSwitches (v : BitVec 6)
  /-- the console moves the test-word switches -/
  | testWord (v : Word)
  deriving DecidableEq, Repr

/-- What the environment does in one iteration (R170, R171, R197): its actions in order, the stop it
forces, if any, and its answer when the engine asks whether PC is at a breakpoint. -/
structure Hook where
  actions : List HookAction
  stop : Option Nat
  breakpoint : Bool
  deriving DecidableEq, Repr

/-- What the console does to a stopped machine (R195, R210 to R212, R217). -/
inductive ConsoleCmd where
  /-- set PC to `START_PC` and start the engine -/
  | start (pc : Addr)
  /-- start the engine with PC as it is -/
  | resume
  /-- reset -/
  | reset
  /-- set PC -/
  | setPc (pc : Addr)
  /-- deposit a word in memory -/
  | deposit (a : Addr) (v : Word)
  /-- set AC, a launch input -/
  | setAc (v : Word)
  /-- set IO, a launch input -/
  | setIo (v : Word)
  /-- move the sense switches -/
  | senseSwitches (v : BitVec 6)
  /-- move the test-word switches -/
  | testWord (v : Word)
  /-- adjust `ind_max` and `xct_max` between runs -/
  | limits (indMax xctMax : Nat)
  /-- set the configured unit flag that the next reset samples (R211) -/
  | configureSbs16 (b : Bool)
  deriving DecidableEq, Repr

/-- What the IOT device port carries from the machine to a device (`48_iot.md` R150). -/
structure DevCall where
  inst : Word
  dev : BitVec 6
  ioOut : Word
  deriving DecidableEq, Repr

/-- The state of the machine. -/
structure State where
  /-- the parameters of R7 -/
  straps : Straps
  /-- the configured unit flag that a reset samples into `OPT_SBS16` (`70_reset_and_hazards.md` R211) -/
  unitSbs16 : Bool
  /-- AC, the accumulator (R20) -/
  ac : Word
  /-- IO, the I/O register (R21) -/
  io : Word
  /-- PC (R22) -/
  pc : Addr
  /-- MA, the memory-address latch (R24) -/
  ma : Addr
  /-- MB, the memory-buffer latch (R24) -/
  mb : Word
  /-- IR, the instruction register (R29) -/
  ir : Word
  /-- OV, the overflow flag (R25) -/
  ov : Bool
  /-- PF: bit 7 the link L, bit 6 the ring-mode bit RNG, bits 5:0 the program flags 1 to 6 (R26) -/
  pf : BitVec 8
  /-- extend mode (R28) -/
  extm : Bool
  /-- SS, the sense switches (R30) -/
  ss : BitVec 6
  /-- TW, the test word (R31) -/
  tw : Word
  /-- the sequence-break flip-flops (R32) -/
  sbs : BreakFlipFlops
  /-- `sbs_req`, bit L for level L (R34) -/
  sbsReq : BitVec 16
  /-- `sbs_enb`, bit L for level L (R35) -/
  sbsEnb : BitVec 16
  /-- `sbs_act`, bit L for level L (R36) -/
  sbsAct : BitVec 16
  /-- `sbs_lvl`: 0, or level + 1 (R37) -/
  sbsLvl : BitVec 5
  /-- restrict mode (R38) -/
  rm : Bool
  /-- `rmask` (R39) -/
  rmask : Word
  /-- `rtb`, the trap buffer (R40) -/
  rtb : Word
  /-- `rname` (R41) -/
  rname : RenameTable
  /-- `ioh`, the I/O halt latch (R42) -/
  ioh : Bool
  /-- `ios`, the I/O synchronizer (R43) -/
  ios : Bool
  /-- `cpls`, the devices that owe a completion pulse, none twice (R44) -/
  cpls : List (BitVec 6)
  /-- the XCT nesting counter (R45) -/
  xctCount : Nat
  /-- the run state (R46) -/
  run : RunState
  /-- the memory array (R50) -/
  mem : Memory
  /-- MODEL: what the environment does in the coming iterations, the next one first (R171). With
  none left the environment does nothing. -/
  hooks : List Hook
  /-- MODEL: what the devices will answer to the coming calls, the next one first (R150). With none
  left the answers are free values. -/
  answers : List DevAnswer
  /-- MODEL: how many free answers have been drawn -/
  draws : Nat
  /-- MODEL: what the console will do while the machine is stopped, the next command first (R195) -/
  console : List ConsoleCmd
  /-- MODEL: the last call on the device port (R150) -/
  lastCall : Option DevCall
  deriving DecidableEq, Repr

/-- Why a step ends in a fault: no rule of the spec makes this machine fault, so there is no
constructor. A violation is a trap (R183), a stop is a state (R195), an absent word of memory reads 0
(R56). -/
inductive Fault where
  deriving DecidableEq, Repr

/-- Why a step is refused. -/
inductive Refusal where
  /-- exec's arm of an instruction that has no meaning yet; safe -/
  | notModelled (mnemonic : String)
  /-- IOT pulse 066 with `OPT_1D` would write the rename table: raised by RNM (`48_iot.md` R163:
  "a model refuses 066"); safe -/
  | renameTable
  /-- IOT pulse 065 with `OPT_1D` and without `OPT_SBS16` would set restrict mode without the
  16-channel controller: raised by ERM (`00_scope.md` R8: "a model refuses the pulse that would set
  it"); safe -/
  | restrictModeWithoutSbs16
  deriving DecidableEq, Repr

/-- The straps of the machine that `State.reset` describes: every option present; the other values are
those of `95_test_vectors.md` where it names one. The log entries 3 and 4 mark them DESIGN CHOICE. -/
def strapsAtReset : Straps where
  opt1d := true
  sbs16 := true
  mdv := true
  stopInst := true
  topField := 15
  indMax := 16
  xctMax := 16
  bankShift := .at12
  dapWidth := .six
  sbsInit := ⟨false, false, false⟩
  extmInit := false
  codeIll := 1#4
  codeIot := 2#4
  codeHlt := 4#4
  codeChr := 8#4
  charFormat := .candidate

/-- The machine right after reset (`10_state.md` R47, `70_reset_and_hazards.md` R210). What reset leaves
unchanged (AC, IO, PC, SS, TW, IR, memory) is 0 here: log entry 2. It is stopped with no reason, and
no input of the environment is pending: log entries 5 and 6. -/
def State.reset : State where
  straps := strapsAtReset
  unitSbs16 := strapsAtReset.sbs16
  ac := 0#18
  io := 0#18
  pc := 0#16
  ma := 0#16
  mb := 0#18
  ir := 0#18
  ov := false
  pf := 0#8
  extm := strapsAtReset.extmInit
  ss := 0#6
  tw := 0#18
  sbs := strapsAtReset.sbsInit
  sbsReq := 0#16
  sbsEnb := 0#16
  sbsAct := 0#16
  sbsLvl := 0#5
  rm := false
  rmask := 0#18
  rtb := 0#18
  rname := .identity
  ioh := false
  ios := false
  cpls := []
  xctCount := 0
  run := .stopped none
  mem := []
  hooks := []
  answers := []
  draws := 0
  console := []
  lastCall := none

end Sys2Proof.Machine
end

