-- ==== Sys2Proof/Machine/Ops.lean ====
section
/-! DEFINITION. The named operations over memory and registers: memory cells, the protected accesses
`Read` and `Write`, PC, the packed PC word, the sequence-break controller, taking a sequence break,
the restrict-mode trap, the return from a break, stops (`20_memory.md`, `60_exceptions.md`). -/

namespace Sys2Proof.Machine

/-! ### How an operation ends -/

/-- How an operation over the state ends (R13, R85): it goes on; it raises `RMV`, the effects so far
kept; it raises a stop; or it is refused. -/
inductive Res where
  | ok (s : State)
  | trap (s : State)
  | stop (r : StopReason) (s : State)
  | refused (r : Refusal)
  deriving DecidableEq, Repr

/-- What follows an operation that may end early: "every call site explicitly checks and forwards the
condition" (R13). -/
def Res.andThen (r : Res) (f : State → Res) : Res :=
  match r with
  | .ok s => f s
  | .trap s => .trap s
  | .stop k s => .stop k s
  | .refused k => .refused k

/-! ### Memory -/

/-- The word at an address; an unlisted address reads 0 (log entry 1). -/
def Memory.get : Memory → Nat → Word
  | [], _ => 0#18
  | (b, v) :: m, a => if a = b then v else Memory.get m a

/-- A cell before the rest of memory; a word that is 0 is not listed. -/
def Memory.cell (a : Nat) (v : Word) (m : Memory) : Memory := if v = 0#18 then m else (a, v) :: m

/-- Memory with `v` at address `a`, in canonical form again. -/
def Memory.set : Memory → Nat → Word → Memory
  | [], a, v => Memory.cell a v []
  | (b, w) :: m, a, v =>
    if a < b then Memory.cell a v ((b, w) :: m)
    else if a = b then Memory.cell a v m
    else (b, w) :: Memory.set m a v

/-- Canonical form from address `lo` up: addresses strictly rising, no listed word 0. -/
def Memory.wfFrom : Nat → Memory → Bool
  | _, [] => true
  | lo, (a, v) :: m => decide (lo ≤ a) && v != 0#18 && Memory.wfFrom (a + 1) m

/-- The canonical form of memory. -/
def Memory.wf (m : Memory) : Bool := Memory.wfFrom 0 m

/-- The word at an address as the machine reads it: 0 at or above `MEMSIZE` (R56). -/
def State.word (s : State) (a : Addr) : Word :=
  if a.toNat < s.straps.memsize then Memory.get s.mem a.toNat else 0#18

/-- Memory with `v` stored at `a`; nothing at or above `MEMSIZE` (R56). -/
def State.stored (s : State) (a : Addr) (v : Word) : Memory :=
  if a.toNat < s.straps.memsize then Memory.set s.mem a.toNat v else s.mem

/-- A store of one word, protected by nothing: the array itself (R50, R57). -/
def State.store (s : State) (a : Addr) (v : Word) : State := { s with mem := s.stored a v }

/-! ### Latches and addresses -/

/-- `MA <- a` (R24). -/
def State.withMa (s : State) (a : Addr) : State := { s with ma := a }

/-- `MB <- v` (R24). -/
def State.withMb (s : State) (v : Word) : State := { s with mb := v }

/-- The address with the field of `a` and the in-field part of `b` (R12). -/
def inField (a b : Addr) : Addr := (a &&& epcmask) ||| (b &&& ~~~epcmask)

/-- `INCR_ADDR` (R13): the field bits do not change. -/
def incrAddr (a : Addr) : Addr := inField a (a + 1#16)

/-- `DECR_ADDR` (R13). -/
def decrAddr (a : Addr) : Addr := inField a (a - 1#16)

/-- The skip of the next instruction: `PC <- INCR_ADDR(PC)` (R13, R23). -/
def State.skip (s : State) : State := { s with pc := incrAddr s.pc }

/-- A skip on a condition. -/
def State.skipIf (s : State) (c : Bool) : State := if c then s.skip else s

/-- The PC back-up of the I/O wait: `PC <- DECR_ADDR(PC)` (R152). -/
def State.backUp (s : State) : State := { s with pc := decrAddr s.pc }

/-- `EPC_WORD`: OV in bit 17, extm in bit 16, PC in bits 15:0 (R27). -/
def epcWord (s : State) : Word :=
  (BitVec.ofBool s.ov).setWidth 18 <<< 17 ||| (BitVec.ofBool s.extm).setWidth 18 <<< 16 ||| s.pc.setWidth 18

/-! ### Flags in PF (R26) -/

/-- The link, `PF[7]`. -/
def linkOf (s : State) : Bool := s.pf.getLsbD 7

/-- The ring-mode bit, `PF[6]`. -/
def ringMode (s : State) : Bool := s.pf.getLsbD 6

/-- PF with the link set to `l`. -/
def withLink (pf : BitVec 8) (l : Bool) : BitVec 8 := (pf &&& 0o177#8) ||| (BitVec.ofBool l).setWidth 8 <<< 7

/-- PF with the ring-mode bit set to `r`. -/
def withRing (pf : BitVec 8) (r : Bool) : BitVec 8 := (pf &&& 0o277#8) ||| (BitVec.ofBool r).setWidth 8 <<< 6

/-- The six program flags, `PF[5:0]`. -/
def programFlags (pf : BitVec 8) : BitVec 6 := pf.setWidth 6

/-! ### Stops (R195) -/

/-- `stop(r)`: leaves RUNNING with reason `r` and changes nothing else (R195). -/
def State.stopWith (s : State) (r : StopReason) : State := { s with run := .stopped (some r) }

/-! ### Levels (R34 to R36): bit L of a mask is level L -/

/-- The mask with level `l` set. -/
def setLevel (m : BitVec 16) (l : BitVec 4) : BitVec 16 := m ||| (1#16 <<< l.toNat)

/-- The mask with level `l` cleared. -/
def clearLevel (m : BitVec 16) (l : BitVec 4) : BitVec 16 := m &&& ~~~(1#16 <<< l.toNat)

/-- The least level of `m` among the `n` levels up from `16 - n`, or 16 if there is none. -/
def leastFrom (m : BitVec 16) : Nat → Nat
  | 0 => 16
  | n + 1 => if m.getLsbD (15 - n) then 15 - n else leastFrom m n

/-- The least level set in `m`, or 16 if there is none (R174). -/
def leastLevel (m : BitVec 16) : Nat := leastFrom m 16

/-- `sbs_eval()` on the two masks: 0, or level + 1 (R174). -/
def sbsEval (req act : BitVec 16) : BitVec 5 :=
  if leastLevel req < leastLevel act then BitVec.ofNat 5 (leastLevel req + 1) else 0#5

/-- An evaluation point: `sbs_lvl <- sbs_eval()` (R179). -/
def State.evalBreaks (s : State) : State := { s with sbsLvl := sbsEval s.sbsReq s.sbsAct }

/-! ### The restrict-mode check (R54, R55) -/

/-- The causes of a restrict-mode trap (R182). -/
inductive Cause where
  | access
  | ill
  | iot
  | hlt
  | chr
  deriving DecidableEq, Repr

/-- Bits 17:14 of a cause's code; 0 for a plain access violation (R182, D13). -/
def causeCode (c : Straps) : Cause → BitVec 4
  | .access => 0#4
  | .ill => c.codeIll
  | .iot => c.codeIot
  | .hlt => c.codeHlt
  | .chr => c.codeChr

/-- Restricted: restrict mode on and no sequence-break level active (R54, R187). -/
def restricted (s : State) : Bool := s.rm && s.sbsAct == 0#16

/-- The bank of an address (R55). -/
def bankOf (b : BankShift) (a : Addr) : Nat :=
  match b with
  | .at12 => (a >>> 12).toNat
  | .at14 => (a >>> 14).toNat

/-- Whether the mask denies the bank of an address: `rmask[17 - bank]` (R55). -/
def denied (s : State) (a : Addr) : Bool := (s.rmask <<< bankOf s.straps.bankShift a).getLsbD 17

/-- `violation(a)` (R54). -/
def violation (s : State) (a : Addr) : Bool := restricted s && denied s a

/-- The trap buffer's record of a violation: the cause and `MB[13:0]` (R54, R182). -/
def trapRecord (s : State) (c : Cause) : Word :=
  (causeCode s.straps c).setWidth 18 <<< 14 ||| (s.mb &&& 0o37777#18)

/-- The record made, before the redirect (R54). -/
def State.recordTrap (s : State) (c : Cause) : State := { s with rtb := trapRecord s c }

/-- `rtb <- cause | MB[13:0]; raise RMV` (R54, R182). -/
def violate (c : Cause) (s : State) : Res := .trap (s.recordTrap c)

/-- `Read()` (R52). -/
def readWord (s : State) : Res := if violation s s.ma then violate .access s else .ok (s.withMb (s.word s.ma))

/-- `Write()` (R53). -/
def writeWord (s : State) : Res := if violation s s.ma then violate .access s else .ok (s.store s.ma s.mb)

/-- `MA <- a; MB <- v; Write()` (R13). -/
def writeAt (a : Addr) (v : Word) (s : State) : Res := writeWord ((s.withMa a).withMb v)

/-! ### Taking a trap and taking a sequence break -/

/-- The trap redirect: a request on level 14, not gated by its enable, and an evaluation (R183). -/
def trapRedirect (s : State) : State := ({ s with sbsReq := setLevel s.sbsReq 14#4 }).evalBreaks

/-- How an operation that is the whole of an instruction (or of an interrupt entry) ends the iteration:
a trap is redirected, a stop stops (R170 step 7). -/
def Res.finish : Res → Host.Outcome State Fault Refusal
  | .ok s => .next s
  | .trap s => .next (trapRedirect s)
  | .stop r s => .next (s.stopWith r)
  | .refused r => .refused r

/-- Whether a break is taken in this iteration (R173 in the 1-channel configuration, R175 in the other). -/
def admissible (s : State) : Bool :=
  if s.straps.sbs16 then s.sbs.on && s.sbsLvl != 0#5 else s.sbs.on && s.sbs.rq && !s.sbs.ip

/-- The level that `sbs_lvl` names (R177). -/
def pendingLevel (s : State) : BitVec 4 := (s.sbsLvl - 1#5).setWidth 4

/-- The address of the status block of a level (R177). -/
def statusBlock (l : BitVec 4) : Addr := l.setWidth 16 <<< 2

/-- Step 1 of interrupt entry: the request is taken (R177). -/
def takeRequest (s : State) : State :=
  if s.straps.sbs16 then
    ({ s with sbsReq := clearLevel s.sbsReq (pendingLevel s), sbsAct := setLevel s.sbsAct (pendingLevel s) }).evalBreaks
  else { s with sbs := { s.sbs with ip := true, rq := false } }

/-- The block that entry saves into: the level's, or block 0 in the 1-channel configuration (R177). -/
def entryBlock (s : State) : Addr := if s.straps.sbs16 then statusBlock (pendingLevel s) else 0#16

/-- Interrupt entry (R177): take the request, save AC, the packed PC word and IO in the status block, go
to the fourth word of the block, clear extend mode and overflow. -/
def interruptEntry (s : State) : Res :=
  let blk := entryBlock s
  (((writeAt blk s.ac (takeRequest s)).andThen fun s1 =>
    writeAt (blk + 1#16) (epcWord s1) s1).andThen fun s2 =>
    writeAt (blk + 2#16) s2.io s2).andThen fun s3 =>
    .ok { s3 with pc := blk + 3#16, extm := false, ov := false }

/-- Whether the dismissal form for level `l` is a dismissal here: breaks enabled, PC in field 0, and in the
1-channel configuration level 0 only (R121). -/
def dismisses (l : BitVec 4) (s : State) : Bool :=
  s.sbs.on && s.pc &&& epcmask == 0#16 && (s.straps.sbs16 || l == 0#4)

/-- The level is left (R121). -/
def leaveLevel (l : BitVec 4) (s : State) : State :=
  if s.straps.sbs16 then ({ s with sbsAct := clearLevel s.sbsAct l }).evalBreaks
  else { s with sbs := { s.sbs with ip := false } }

/-- The packed PC word in MB put back into OV, extm and PC (R121). -/
def restorePc (s : State) : State :=
  { s with ov := s.mb.getLsbD 17, extm := s.mb.getLsbD 16, pc := s.mb.setWidth 16 }

/-- The return from a sequence break (R121, R180): leave the level, read the saved PC word, restore it. -/
def dismiss (l : BitVec 4) (s : State) : Res :=
  (readWord ((leaveLevel l s).withMa (statusBlock l + 1#16))).andThen fun s1 => .ok (restorePc s1)

/-- An undefined instruction (R184): a trap when restricted, else a stop if `stop_inst`, else nothing. -/
def undefinedInstruction (s : State) : Res :=
  if restricted s then violate .ill s else if s.straps.stopInst then .stop .rsrv s else .ok s

/-! ### Ports (R154, R171, R176, R57) -/

/-- `dev_req_int(level)` (R176): gated by the level's enable in the 16-channel configuration, unconditional
in the other. -/
def breakRequest (l : BitVec 4) (s : State) : State :=
  if s.straps.sbs16 then
    if s.sbsEnb.getLsbD l.toNat then { s with sbsReq := setLevel s.sbsReq l } else s
  else { s with sbs := { s.sbs with rq := true } }

/-- The set of devices with `d` in it. -/
def oweCompletion (d : BitVec 6) (ds : List (BitVec 6)) : List (BitVec 6) := if ds.contains d then ds else d :: ds

/-- One use of a port by a device. -/
def portAction (a : PortAction) (s : State) : State :=
  match a with
  | .breakRequest l => breakRequest l s
  | .dmaWrite a v => s.store a v
  | .dmaRead _ => s
  | .complete d => { s with ios := true, cpls := s.cpls.erase d }
  | .owe d => { s with cpls := oweCompletion d s.cpls }

/-- The uses of the ports during one device call, in order (R150). -/
def portActions (as : List PortAction) (s : State) : State := as.foldl (fun t a => portAction a t) s

end Sys2Proof.Machine
end

