-- ==== Sys2Proof/Machine/Operands.lean ====
section
/-! DEFINITION. How operands are assembled from instruction bits (`30_encoding.md` R79): addresses,
the byte pointer, selectors, literals, counts. -/

namespace Sys2Proof.Machine

/-! ### Addresses (`20_memory.md` R60) -/

/-- The direct address: the field of PC and the address field (R60 step 1, R79). -/
def directAddr (pc : Addr) (y : BitVec 12) : Addr := inField pc (y.setWidth 16)

/-- The address in an indirect word in non-extend mode: the field of PC and the low 12 bits (R60). -/
def chainAddr (pc : Addr) (w : Word) : Addr := inField pc (w.setWidth 16)

/-- The indirect flag of a word, bit 12 (R12, R60). -/
def hasIndirect (w : Word) : Bool := w.getLsbD 12

/-- The indirect walk of non-extend mode with at most `n` reads left (R60 step 3). -/
def chase : Nat → State → Res
  | 0, s => .stop .ind s
  | n + 1, s =>
    (readWord s).andThen fun s1 =>
      let s2 := s1.withMa (chainAddr s1.pc s1.mb)
      if hasIndirect s1.mb then chase n s2 else .ok s2

/-- `Ea(IR)`: leaves the effective address in MA (R60). -/
def ea (ind : Bool) (y : BitVec 12) (s : State) : Res :=
  let s0 := s.withMa (directAddr s.pc y)
  if !ind then .ok s0
  else if s.extm then (readWord s0).andThen fun s1 => .ok (s1.withMa (s1.mb.setWidth 16))
  else chase s.straps.indMax s0

/-- The effective address, then its word in MB: how every instruction with a memory operand begins. -/
def operand (ind : Bool) (y : BitVec 12) (s : State) : Res := (ea ind y s).andThen readWord

/-! ### The byte pointer (`41_char_pdp1d.md` R90, R91) -/

/-- `bp_byte(p)`; the candidate is `p[17:16]` (R91). -/
def bpByte (f : CharFormat) (p : Word) : BitVec 2 :=
  match f with
  | .candidate => p.extractLsb' 16 2
  | .unspecified => Config.bpByte p

/-- `bp_addr(p)`; the candidate is the indirect address of R60 (R91). -/
def bpAddr (f : CharFormat) (extm : Bool) (pc : Addr) (p : Word) : Addr :=
  match f with
  | .candidate => if extm then p.setWidth 16 else chainAddr pc p
  | .unspecified => Config.bpAddr extm pc p

/-- `bp_incr(p, ring)`; the candidate steps the position 1, 2, 3, 1 and carries into the address on the
last (R91). It does not say what the step from position 0 is: that one is free. -/
def bpIncr (f : CharFormat) (p : Word) (ring : Bool) : Word :=
  match f with
  | .unspecified => Config.bpIncr p ring
  | .candidate =>
    match (bpByte .candidate p).toNat with
    | 1 => (p &&& 0o177777#18) ||| 0o400000#18
    | 2 => (p &&& 0o177777#18) ||| 0o600000#18
    | 3 =>
      (if ring then (p &&& 0o170000#18) ||| ((p + 1#18) &&& 0o7777#18) else (p + 1#18) &&& 0o177777#18)
        ||| 0o200000#18
    | _ => Config.bpIncr p ring

/-- `bp_pagecross(p)`; the candidate: position 3 and in-field address 07777 (R91). -/
def bpPagecross (f : CharFormat) (p : Word) : Bool :=
  match f with
  | .candidate => bpByte .candidate p == 3#2 && p.extractLsb' 0 12 == 0o7777#12
  | .unspecified => Config.bpPagecross p

/-- The shift table `byt_shf` of the source: 0, 0, 6, 12 (R91, R92). -/
def byteShift (bn : BitVec 2) : Nat :=
  match bn.toNat with
  | 2 => 6
  | 3 => 12
  | _ => 0

/-- `ch_get(w, s)`; the candidate puts the 6-bit character in bits 17:12 (R91). -/
def chGet (f : CharFormat) (w : Word) (s : Nat) : Word :=
  match f with
  | .candidate => (w <<< s) &&& 0o770000#18
  | .unspecified => Config.chGet w s

/-- `ch_put(w, s, c)`; the candidate takes the character from bits 17:12 of `c` (R91). -/
def chPut (f : CharFormat) (w : Word) (s : Nat) (c : Word) : Word :=
  match f with
  | .candidate => (w &&& ~~~((0o770000#18) >>> s)) ||| ((c &&& 0o770000#18) >>> s)
  | .unspecified => Config.chPut w s c

/-- The pointer walk of non-extend mode with at most `n` reads left: it ends with the pointer in MB and
its cell's address in MA (R90). -/
def chasePointer : Nat → State → Res
  | 0, s => .stop .ind s
  | n + 1, s =>
    (readWord s).andThen fun s1 =>
      if hasIndirect s1.mb then chasePointer n (s1.withMa (chainAddr s1.pc s1.mb)) else .ok s1

/-- The automatic increment of the pointer in MB, written back to its cell; the page-cross trap comes
before the increment (R90). -/
def advancePointer (s : State) : Res :=
  if restricted s && bpPagecross s.straps.charFormat s.mb then violate .chr s
  else writeWord (s.withMb (bpIncr s.straps.charFormat s.mb (ringMode s)))

/-- `Ea_ch(IR)`: leaves the byte pointer in MB and the character's address in MA; the byte position is
`bp_byte` of MB (R90). -/
def eaCh (auto : Bool) (y : BitVec 12) (s : State) : Res :=
  let s0 := s.withMa (directAddr s.pc y)
  ((if s.extm then readWord s0 else chasePointer s.straps.indMax s0).andThen fun s1 =>
    if auto then advancePointer s1 else .ok s1).andThen fun s2 =>
      .ok (s2.withMa (bpAddr s2.straps.charFormat s2.extm s2.pc s2.mb))

/-- The shift that belongs to the byte pointer in MB (R92). -/
def pointerShift (s : State) : Nat := byteShift (bpByte s.straps.charFormat s.mb)

/-! ### Selectors, literals, counts -/

/-- `sel(n)`: 1 to 6 select one bit, flag or switch n; 7 all six; 0 none (R126). -/
def sel (n : BitVec 3) : BitVec 6 :=
  if n = 0#3 then 0#6 else if n = 7#3 then 0o77#6 else 0o40#6 >>> (n.toNat - 1)

/-- The literal of LAW, zero-extended and then complemented over 18 bits if asked (R123, R79). -/
def lawLiteral (c : Bool) (n : BitVec 12) : Word := if c then ~~~(n.setWidth 18) else n.setWidth 18

/-- The number of one bits among the low `n` bits of `v`. -/
def onesBelow (v : BitVec 9) : Nat → Nat
  | 0 => 0
  | n + 1 => onesBelow v n + (v.getLsbD n).toNat

/-- The shift count: the number of one bits of the count code, 0 to 9 (R130). -/
def shiftCount (code : BitVec 9) : Nat := onesBelow code 9

/-- The channel number of a sequence-break pulse: `IR[9:6]` (R79). -/
def channelOf (sub : BitVec 5) : BitVec 4 := sub.setWidth 4

/-- The low part that DAP stores: 6 or 12 bits (R100). -/
def lowMask : DapWidth → Word
  | .six => 0o77#18
  | .twelve => 0o7777#18

end Sys2Proof.Machine
end

