-- ==== Sys2Proof/Machine/Arith.lean ====
section
/-! DEFINITION. Arithmetic and compare: TAD, ADD, SUB, IDX, ISP, SAD, SAS, MUL, MUS, DIV, DIS
(`43_arith.md` R105 to R116). -/

namespace Sys2Proof.Machine

/-- TAD with the operand in MB: the sum's low 18 bits go to AC, its carry to the link (R105). -/
def addWithLink (t : State) : State :=
  let s := tadSum t.ac t.mb (linkOf t)
  { t with ac := s.setWidth 18, pf := withLink t.pf (s.getLsbD 18) }

/-- TAD (R105); without `OPT_1D` an undefined instruction. -/
def execTad (ind : Bool) (y : BitVec 12) (s : State) : Host.Outcome State Fault Refusal :=
  (if s.straps.opt1d then (operand ind y s).andThen fun t => .ok (addWithLink t)
    else undefinedInstruction s).finish

/-- ADD (R106): OV is set on overflow and never cleared. -/
def execAdd (ind : Bool) (y : BitVec 12) (s : State) : Host.Outcome State Fault Refusal :=
  ((operand ind y s).andThen fun t =>
    .ok { t with ac := addResult t.ac t.mb, ov := t.ov || addSetsOv t.ac t.mb }).finish

/-- SUB (R107): OV is set on overflow and never cleared. -/
def execSub (ind : Bool) (y : BitVec 12) (s : State) : Host.Outcome State Fault Refusal :=
  ((operand ind y s).andThen fun t =>
    .ok { t with ac := subResult t.ac t.mb, ov := t.ov || subSetsOv t.ac t.mb }).finish

/-- The increment of a word of memory and AC (R108): AC holds the new value before the write. -/
def indexMemory (ind : Bool) (y : BitVec 12) (s : State) : Res :=
  (operand ind y s).andThen fun t =>
    writeWord { t with ac := indexResult t.mb, mb := indexResult t.mb }

/-- IDX (R108). -/
def execIdx (ind : Bool) (y : BitVec 12) (s : State) : Host.Outcome State Fault Refusal :=
  (indexMemory ind y s).finish

/-- ISP (R109): the skip comes after the write. -/
def execIsp (ind : Bool) (y : BitVec 12) (s : State) : Host.Outcome State Fault Refusal :=
  ((indexMemory ind y s).andThen fun t => .ok (t.skipIf (!signOf t.ac))).finish

/-- SAD (R110). -/
def execSad (ind : Bool) (y : BitVec 12) (s : State) : Host.Outcome State Fault Refusal :=
  ((operand ind y s).andThen fun t => .ok (t.skipIf (t.ac != t.mb))).finish

/-- SAS (R111). -/
def execSas (ind : Bool) (y : BitVec 12) (s : State) : Host.Outcome State Fault Refusal :=
  ((operand ind y s).andThen fun t => .ok (t.skipIf (t.ac == t.mb))).finish

/-- A step or operation on the pair AC, IO with the operand. -/
def pairWithOperand (f : Word → Word → Word → Word × Word) (ind : Bool) (y : BitVec 12) (s : State) : Res :=
  (operand ind y s).andThen fun t =>
    .ok { t with ac := (f t.ac t.io t.mb).1, io := (f t.ac t.io t.mb).2 }

/-- MUL, the hardware multiply (R112). -/
def execMul (ind : Bool) (y : BitVec 12) (s : State) : Host.Outcome State Fault Refusal :=
  (pairWithOperand (fun a _ m => mulResult a m) ind y s).finish

/-- MUS, the multiply step (R113). -/
def execMus (ind : Bool) (y : BitVec 12) (s : State) : Host.Outcome State Fault Refusal :=
  (pairWithOperand musResult ind y s).finish

/-- The hardware divide with the divisor in MB: on overflow nothing, else quotient, remainder and a skip
(R114). -/
def divide (t : State) : State :=
  if divOverflows t.ac t.mb then t
  else { t with ac := (divResult t.ac t.io t.mb).1, io := (divResult t.ac t.io t.mb).2, pc := incrAddr t.pc }

/-- DIV, the hardware divide (R114). -/
def execDiv (ind : Bool) (y : BitVec 12) (s : State) : Host.Outcome State Fault Refusal :=
  ((operand ind y s).andThen fun t => .ok (divide t)).finish

/-- DIS, the divide step (R115). -/
def execDis (ind : Bool) (y : BitVec 12) (s : State) : Host.Outcome State Fault Refusal :=
  (pairWithOperand disResult ind y s).finish

end Sys2Proof.Machine
end

