-- ==== Sys2Proof/Machine/Character.lean ====
section
/-! DEFINITION. LCH and DCH, the character instructions of the PDP-1D (`41_char_pdp1d.md` R92 to R94). -/

namespace Sys2Proof.Machine

/-- LCH with the pointer resolved: the character of the word goes to AC (R92). -/
def loadCharacter (s : State) : Res :=
  (readWord s).andThen fun t => .ok { t with ac := chGet t.straps.charFormat t.mb (pointerShift s) }

/-- DCH with the pointer resolved: the character goes from AC into the word (R93). -/
def depositCharacter (s : State) : Res :=
  (readWord s).andThen fun t => writeWord (t.withMb (chPut t.straps.charFormat t.mb (pointerShift s) t.ac))

/-- LCH (R92); without `OPT_1D` an undefined instruction. -/
def execLch (auto : Bool) (y : BitVec 12) (s : State) : Host.Outcome State Fault Refusal :=
  (if s.straps.opt1d then (eaCh auto y s).andThen loadCharacter else undefinedInstruction s).finish

/-- DCH (R93); without `OPT_1D` an undefined instruction. -/
def execDch (auto : Bool) (y : BitVec 12) (s : State) : Host.Outcome State Fault Refusal :=
  (if s.straps.opt1d then (eaCh auto y s).andThen depositCharacter else undefinedInstruction s).finish

end Sys2Proof.Machine
end

