-- ==== Sys2Proof/Machine/Iot.lean ====
section
/-! DEFINITION. The I/O transfer instruction, the device port, and the pulses that read or write the
state of the CORE (`48_iot.md` R150 to R169). -/

namespace Sys2Proof.Machine

/-- What an issue with an answer does to the latch and PC before the answer: with the wait bit the latch is set
and PC backed up (R151, R152). A word that turns out undefined does neither: "In every case PC already
addresses the next instruction, no register ... is changed" (R184, C10; log entry 16). -/
def startWait (w : Bool) (s : State) : State := if w then { s.backUp with ioh := true } else s

/-- A re-issue: with the synchronizer set the wait is over, else PC is backed up again, and the machine stops if
no device owes a completion (R151, R152). -/
def waitOn (s : State) : Res :=
  if s.ios then .ok { s with ioh := false }
  else if s.cpls.isEmpty then .stop .wait s.backUp
  else .ok s.backUp

/-- An IOT (R151, R152, R153): trapped when restricted; a re-issue waits; any other issue has the answer. -/
def iotIssue (w : Bool) (answer : State → Res) (s : State) : Res :=
  if restricted s then violate .iot s else if w && s.ioh then waitOn s else answer s

/-- The answer of a CORE pulse that acts by `f`: the wait started, IO as `f` leaves it, no skip, no stop, an
evaluation (R151, section 3 of `48_iot.md`). -/
def corePulse (w : Bool) (f : State → State) (s : State) : Res := .ok (f (startWait w s)).evalBreaks

/-- The next answer of a device: the first of the list, or a free value when the list is empty (R150). -/
def nextAnswer (s : State) : DevAnswer := s.answers.headD (Config.deviceAnswer s.draws)

/-- The state once that answer has been taken. -/
def takeAnswer (s : State) : State :=
  match s.answers with
  | [] => { s with draws := s.draws + 1 }
  | _ :: as => { s with answers := as }

/-- A device that the call started owes a completion if the word asks for one, that is if exactly one of W
and C is 1: it clears `ios` and enters `cpls` (R154). -/
def startDevice (asks : Bool) (dev : BitVec 6) (s : State) : State :=
  if asks then { s with ios := false, cpls := oweCompletion dev s.cpls } else s

/-- What a device does to the machine during the call: it starts, then it uses its other ports (R150). -/
def deviceActs (a : DevAnswer) (w c : Bool) (dev : BitVec 6) (s : State) : State :=
  portActions a.ports (startDevice (a.starts && xor w c) dev s)

/-- The answer taken over: the new IO, the skip, an evaluation (R151). -/
def acceptAnswer (a : DevAnswer) (s : State) : State := (({ s with io := a.ioIn }).skipIf a.skip).evalBreaks

/-- A stop that the answer forces, after everything else (R151, R185). -/
def forcedStop (a : DevAnswer) (s : State) : Res :=
  match a.stop with
  | none => .ok s
  | some k => .stop (.external k) s

/-- A call on the device port (R150, R151); a code nobody implements is an undefined instruction, with nothing
changed and PC past it (R184). -/
def deviceCall (w c : Bool) (dev : BitVec 6) (s : State) : Res :=
  let a := nextAnswer s
  let t := takeAnswer s
  if !a.present then undefinedInstruction t
  else
    let u := deviceActs a w c dev { startWait w t with lastCall := some ⟨s.ir, dev, s.io⟩ }
    forcedStop a (acceptAnswer a u)

/-- A pulse that only a machine with an option has; without it the code belongs to an external device (R155,
R161, R168). -/
def pulseOrDevice (has : Bool) (answer : State → Res) (w c : Bool) (dev : BitVec 6) (s : State) : Res :=
  iotIssue w (if has then answer else deviceCall w c dev) s

/-- A pulse that only a machine with an option has; without it the code is an undefined instruction (R156,
R167). -/
def pulseOrUndefined (has : Bool) (f : State → State) (w : Bool) (s : State) : Res :=
  iotIssue w (if has then corePulse w f else undefinedInstruction) s

/-! ### What the pulses do -/

/-- The enable of a channel cleared (R156). -/
def disableChannel (l : BitVec 4) (s : State) : State := { s with sbsEnb := clearLevel s.sbsEnb l }

/-- The enable of a channel set (R157). -/
def enableChannel (l : BitVec 4) (s : State) : State := { s with sbsEnb := setLevel s.sbsEnb l }

/-- Every enable cleared (R158). -/
def disableAll (s : State) : State := { s with sbsEnb := 0#16 }

/-- A request posted by the program, not gated by the enable (R159). -/
def initiateBreak (l : BitVec 4) (s : State) : State := { s with sbsReq := setLevel s.sbsReq l }

/-- The global enable written (R164, R165). -/
def enableBreaks (b : Bool) (s : State) : State := { s with sbs := { s.sbs with on := b } }

/-- RQ and IP cleared, ON kept (R166). -/
def clearBreaks (s : State) : State := { s with sbs := { s.sbs with rq := false, ip := false } }

/-- Extend mode written (R160). -/
def setExtend (b : Bool) (s : State) : State := { s with extm := b }

/-- Restrict mode left (R161). -/
def leaveRestrict (s : State) : State := { s with rm := false }

/-- Restrict mode entered, the mask taken from IO (R162). -/
def enterRestrict (s : State) : State := { s with rm := true, rmask := s.io }

/-- The rename table set to identity (R163). -/
def resetRename (s : State) : State := { s with rname := .identity }

/-- IO takes the trap buffer, which keeps its value (R167). -/
def readTrapBuffer (s : State) : State := { s with io := s.rtb }

/-- The ring-mode bit written (R168). -/
def setRing (b : Bool) (s : State) : State := { s with pf := withRing s.pf b }

/-! ### The instructions -/

/-- RNG_CLR, device 010 (R168). -/
def execRngClr (w c : Bool) (_sub : BitVec 5) (s : State) : Host.Outcome State Fault Refusal :=
  (pulseOrDevice s.straps.opt1d (corePulse w (setRing false)) w c 0o10#6 s).finish

/-- RNG_SET, device 011 (R168). -/
def execRngSet (w c : Bool) (_sub : BitVec 5) (s : State) : Host.Outcome State Fault Refusal :=
  (pulseOrDevice s.straps.opt1d (corePulse w (setRing true)) w c 0o11#6 s).finish

/-- RTB, device 035 (R167). -/
def execRtb (w _c : Bool) (_sub : BitVec 5) (s : State) : Host.Outcome State Fault Refusal :=
  (pulseOrUndefined s.straps.opt1d readTrapBuffer w s).finish

/-- DSC, device 050 (R156). -/
def execDsc (w _c : Bool) (sub : BitVec 5) (s : State) : Host.Outcome State Fault Refusal :=
  (pulseOrUndefined s.straps.sbs16 (disableChannel (channelOf sub)) w s).finish

/-- ASC, device 051 (R157). -/
def execAsc (w _c : Bool) (sub : BitVec 5) (s : State) : Host.Outcome State Fault Refusal :=
  (pulseOrUndefined s.straps.sbs16 (enableChannel (channelOf sub)) w s).finish

/-- ISB, device 052 (R159). -/
def execIsb (w _c : Bool) (sub : BitVec 5) (s : State) : Host.Outcome State Fault Refusal :=
  (pulseOrUndefined s.straps.sbs16 (initiateBreak (channelOf sub)) w s).finish

/-- CAC, device 053 (R158). -/
def execCac (w _c : Bool) (_sub : BitVec 5) (s : State) : Host.Outcome State Fault Refusal :=
  (pulseOrUndefined s.straps.sbs16 disableAll w s).finish

/-- LSM, device 054 (R164). -/
def execLsm (w _c : Bool) (_sub : BitVec 5) (s : State) : Host.Outcome State Fault Refusal :=
  (iotIssue w (corePulse w (enableBreaks false)) s).finish

/-- ESM, device 055 (R165). -/
def execEsm (w _c : Bool) (_sub : BitVec 5) (s : State) : Host.Outcome State Fault Refusal :=
  (iotIssue w (corePulse w (enableBreaks true)) s).finish

/-- CBS, device 056 (R166). -/
def execCbs (w _c : Bool) (_sub : BitVec 5) (s : State) : Host.Outcome State Fault Refusal :=
  (iotIssue w (corePulse w clearBreaks) s).finish

/-- LRM, device 064 (R161). -/
def execLrm (w c : Bool) (_sub : BitVec 5) (s : State) : Host.Outcome State Fault Refusal :=
  (pulseOrDevice s.straps.opt1d (corePulse w leaveRestrict) w c 0o64#6 s).finish

/-- The answer of pulse 065 (R162): refused without the 16-channel controller (R8). -/
def enterRestrictPulse (w : Bool) (s : State) : Res :=
  if s.straps.sbs16 then corePulse w enterRestrict s else .refused .restrictModeWithoutSbs16

/-- ERM, device 065 (R162). -/
def execErm (w c : Bool) (_sub : BitVec 5) (s : State) : Host.Outcome State Fault Refusal :=
  (pulseOrDevice s.straps.opt1d (enterRestrictPulse w) w c 0o65#6 s).finish

/-- The answer of pulse 066: the spec refuses it, because it says what the pulse writes (the rename table)
and neither the value nor what then reads it (R163, R41, D20). -/
def renamePulse (_s : State) : Res := .refused .renameTable

/-- RNM, device 066 (R163). -/
def execRnm (w c : Bool) (_sub : BitVec 5) (s : State) : Host.Outcome State Fault Refusal :=
  (pulseOrDevice s.straps.opt1d renamePulse w c 0o66#6 s).finish

/-- RSM, device 067 (R163). -/
def execRsm (w c : Bool) (_sub : BitVec 5) (s : State) : Host.Outcome State Fault Refusal :=
  (pulseOrDevice s.straps.opt1d (corePulse w resetRename) w c 0o67#6 s).finish

/-- LEM, device 074 with bit 11 clear (R160). -/
def execLem (w : Bool) (_sub : BitVec 5) (s : State) : Host.Outcome State Fault Refusal :=
  (iotIssue w (corePulse w (setExtend false)) s).finish

/-- EEM, device 074 with bit 11 set (R160). -/
def execEem (w : Bool) (_sub : BitVec 5) (s : State) : Host.Outcome State Fault Refusal :=
  (iotIssue w (corePulse w (setExtend true)) s).finish

/-- IOT to an external device (R150, R151). -/
def execIot (w c : Bool) (_sub : BitVec 5) (dev : BitVec 6) (s : State) : Host.Outcome State Fault Refusal :=
  (iotIssue w (deviceCall w c dev) s).finish

end Sys2Proof.Machine
end

