-- ==== Sys2Proof/Machine/Jump.lean ====
section
/-! DEFINITION. JMP, its dismissal form, JSP, LAW (`44_jump_law.md` R120 to R123). -/

namespace Sys2Proof.Machine

/-- An ordinary jump (R120). -/
def jump (ind : Bool) (y : BitVec 12) (s : State) : Res :=
  (ea ind y s).andThen fun t => .ok { t with pc := t.ma }

/-- The words `jmp i (4*l+1)`: a dismissal where the conditions hold (R121), else an ordinary indirect
jump (R120). -/
def execJmpDismiss (l : BitVec 4) (s : State) : Host.Outcome State Fault Refusal :=
  (if dismisses l s then dismiss l s else jump true (dismissalY l) s).finish

/-- JMP (R120). -/
def execJmp (ind : Bool) (y : BitVec 12) (s : State) : Host.Outcome State Fault Refusal :=
  (jump ind y s).finish

/-- JSP (R122). -/
def execJsp (ind : Bool) (y : BitVec 12) (s : State) : Host.Outcome State Fault Refusal :=
  ((ea ind y s).andThen fun t => .ok { t with ac := epcWord t, pc := t.ma }).finish

/-- LAW (R123). -/
def execLaw (c : Bool) (n : BitVec 12) (s : State) : Host.Outcome State Fault Refusal :=
  (Res.ok { s with ac := lawLiteral c n }).finish

end Sys2Proof.Machine
end

