-- ==== Sys2Proof/Machine/LoadStore.lean ====
section
/-! DEFINITION. CAL, JDA, and the loads and stores (`42_call_load_store.md` R95 to R104). -/

namespace Sys2Proof.Machine

/-- CAL and JDA with the save location given: AC is saved there and becomes the packed PC word, control
goes to the word after it; the store comes last (R95, R96). -/
def callAt (a : Addr) (s : State) : Res :=
  writeWord { s with ma := a, mb := s.ac, ac := epcWord s, pc := incrAddr a }

/-- CAL (R95): the save location is 0100 of the current field, the address field is ignored. -/
def execCal (_y : BitVec 12) (s : State) : Host.Outcome State Fault Refusal :=
  (callAt (directAddr s.pc 0o100#12) s).finish

/-- JDA (R96): the save location is the address field in the current field, with no indirection. -/
def execJda (y : BitVec 12) (s : State) : Host.Outcome State Fault Refusal :=
  (callAt (directAddr s.pc y) s).finish

/-- LAC (R97). -/
def execLac (ind : Bool) (y : BitVec 12) (s : State) : Host.Outcome State Fault Refusal :=
  ((operand ind y s).andThen fun t => .ok { t with ac := t.mb }).finish

/-- LIO (R98). -/
def execLio (ind : Bool) (y : BitVec 12) (s : State) : Host.Outcome State Fault Refusal :=
  ((operand ind y s).andThen fun t => .ok { t with io := t.mb }).finish

/-- A plain store of `v`: the old contents are not read (R99, R102, R103). -/
def storeValue (v : State → Word) (ind : Bool) (y : BitVec 12) (s : State) : Res :=
  (ea ind y s).andThen fun t => writeWord (t.withMb (v t))

/-- A partial store: read, merge AC into the word, write (R100, R101). -/
def storeMerged (f : State → Word) (ind : Bool) (y : BitVec 12) (s : State) : Res :=
  (operand ind y s).andThen fun t => writeWord (t.withMb (f t))

/-- The word DAP stores: the low part from AC (R100). -/
def dapWord (s : State) : Word :=
  (s.ac &&& lowMask s.straps.dapWidth) ||| (s.mb &&& ~~~(lowMask s.straps.dapWidth))

/-- The word DIP stores: the high part from AC (R101). -/
def dipWord (s : State) : Word :=
  (s.ac &&& ~~~(lowMask s.straps.dapWidth)) ||| (s.mb &&& lowMask s.straps.dapWidth)

/-- DAC (R99). -/
def execDac (ind : Bool) (y : BitVec 12) (s : State) : Host.Outcome State Fault Refusal :=
  (storeValue (fun t => t.ac) ind y s).finish

/-- DAP (R100). -/
def execDap (ind : Bool) (y : BitVec 12) (s : State) : Host.Outcome State Fault Refusal :=
  (storeMerged dapWord ind y s).finish

/-- DIP (R101). -/
def execDip (ind : Bool) (y : BitVec 12) (s : State) : Host.Outcome State Fault Refusal :=
  (storeMerged dipWord ind y s).finish

/-- DIO (R102). -/
def execDio (ind : Bool) (y : BitVec 12) (s : State) : Host.Outcome State Fault Refusal :=
  (storeValue (fun t => t.io) ind y s).finish

/-- DZM (R103). -/
def execDzm (ind : Bool) (y : BitVec 12) (s : State) : Host.Outcome State Fault Refusal :=
  (storeValue (fun _ => 0#18) ind y s).finish

end Sys2Proof.Machine
end

