-- ==== Sys2Proof/Machine/Logical.lean ====
section
/-! DEFINITION. AND, IOR, XOR (`40_logical_xct.md` R86 to R88). -/

namespace Sys2Proof.Machine

/-- An instruction that combines AC with the operand and touches nothing else. -/
def acWithOperand (f : Word → Word → Word) (ind : Bool) (y : BitVec 12) (s : State) : Res :=
  (operand ind y s).andThen fun t => .ok { t with ac := f t.ac t.mb }

/-- AND (R86). -/
def execAnd (ind : Bool) (y : BitVec 12) (s : State) : Host.Outcome State Fault Refusal :=
  (acWithOperand (fun a m => a &&& m) ind y s).finish

/-- IOR (R87). -/
def execIor (ind : Bool) (y : BitVec 12) (s : State) : Host.Outcome State Fault Refusal :=
  (acWithOperand (fun a m => a ||| m) ind y s).finish

/-- XOR (R88). -/
def execXor (ind : Bool) (y : BitVec 12) (s : State) : Host.Outcome State Fault Refusal :=
  (acWithOperand (fun a m => a ^^^ m) ind y s).finish

end Sys2Proof.Machine
end

