-- ==== Sys2Proof/Machine/Operate.lean ====
section
/-! DEFINITION. The operate group and the special operate group (`47_operate.md` R145 to R147). -/

namespace Sys2Proof.Machine

/-- AC after the micro-operations CLA, LAT, LAP and CMA, in that order (R145 steps 2 to 5). -/
def oprAc (b : OprBits) (s : State) : Word :=
  let a2 := if b.cla then 0#18 else s.ac
  let a3 := if b.lat then a2 ||| s.tw else a2
  let a4 := if b.lap then a3 ||| epcWord s else a3
  if b.cma then ~~~a4 else a4

/-- IO after the micro-operation CLI (R145 step 1). -/
def oprIo (b : OprBits) (s : State) : Word := if b.cli then 0#18 else s.io

/-- PF after the flag micro-operation (R145 step 7); RNG and L are untouched. -/
def oprPf (b : OprBits) (pf : BitVec 8) : BitVec 8 :=
  if b.set then pf ||| (sel b.fl).setWidth 8 else pf &&& ~~~((sel b.fl).setWidth 8)

/-- The micro-operations of an operate word but the halt, in their fixed order (R145 steps 1 to 7). -/
def operate (b : OprBits) (s : State) : State :=
  let a := oprAc b s
  let i := oprIo b s
  { s with
    ac := if s.straps.opt1d && b.lai then i else a
    io := if s.straps.opt1d && b.lia then a else i
    pf := oprPf b s.pf }

/-- The halt micro-operation: a trap when restricted, else a stop (R145 step 8). -/
def haltOp (s : State) : Res := if restricted s then violate .hlt s else .stop .halt s

/-- OPR (R145). -/
def execOpr (b : OprBits) (s : State) : Host.Outcome State Fault Refusal :=
  (if b.hlt then haltOp (operate b s) else .ok (operate b s)).finish

/-- What the open function `spc_exec` leaves (R147); with no bit set it changes nothing. -/
def specialOperate (bits : BitVec 13) (s : State) : State :=
  if bits = 0#13 then s
  else
    let r := Config.spcExec bits s.ac s.io s.pf s.pc
    ({ s with ac := r.ac, io := r.io, pf := r.pf }).skipIf r.skip

/-- SPC (R147); without `OPT_1D` an undefined instruction. -/
def execSpc (bits : BitVec 13) (s : State) : Host.Outcome State Fault Refusal :=
  (if s.straps.opt1d then .ok (specialOperate bits s) else undefinedInstruction s).finish

end Sys2Proof.Machine
end

