-- ==== Sys2Proof/Machine/Shift.lean ====
section
/-! DEFINITION. The shift group (`46_shift.md` R130 to R144). -/

namespace Sys2Proof.Machine

/-- `fill(r)`: eighteen copies of the sign (R131). -/
def fill (r : Word) : Word := if signOf r then dmask else 0#18

/-- Rotate left `n` places (R132, R133). -/
def rotLeft (r : Word) (n : Nat) : Word := (r <<< n) ||| (r >>> (18 - n))

/-- Rotate right `n` places (R138, R139). -/
def rotRight (r : Word) (n : Nat) : Word := (r >>> n) ||| (r <<< (18 - n))

/-- Arithmetic left shift: the sign stays, its copies fill the low end (R135, R136). -/
def arithLeft (r : Word) (n : Nat) : Word :=
  (r &&& 0o400000#18) ||| ((r <<< n) &&& 0o377777#18) ||| (fill r >>> (18 - n))

/-- Arithmetic right shift: copies of the sign fill the high end (R141, R142). -/
def arithRight (r : Word) (n : Nat) : Word := (r >>> n) ||| (fill r <<< (18 - n))

/-- Rotate the pair left (R134). -/
def pairRotLeft (ac io : Word) (n : Nat) : Word × Word :=
  ((ac <<< n) ||| (io >>> (18 - n)), (io <<< n) ||| (ac >>> (18 - n)))

/-- Rotate the pair right (R140). -/
def pairRotRight (ac io : Word) (n : Nat) : Word × Word :=
  ((ac >>> n) ||| (io <<< (18 - n)), (io >>> n) ||| (ac <<< (18 - n)))

/-- Arithmetic left shift of the pair (R137). -/
def pairArithLeft (ac io : Word) (n : Nat) : Word × Word :=
  ((ac &&& 0o400000#18) ||| ((ac <<< n) &&& 0o377777#18) ||| (io >>> (18 - n)),
   (io <<< n) ||| (fill ac >>> (18 - n)))

/-- Arithmetic right shift of the pair (R143). -/
def pairArithRight (ac io : Word) (n : Nat) : Word × Word :=
  ((ac >>> n) ||| (fill ac <<< (18 - n)), (io >>> n) ||| (ac <<< (18 - n)))

/-- A shift of AC alone by the count of the code (R130). -/
def shiftAc (f : Word → Nat → Word) (code : BitVec 9) (s : State) : Res :=
  .ok { s with ac := f s.ac (shiftCount code) }

/-- A shift of IO alone. -/
def shiftIo (f : Word → Nat → Word) (code : BitVec 9) (s : State) : Res :=
  .ok { s with io := f s.io (shiftCount code) }

/-- A shift of the pair AC, IO. -/
def shiftPair (f : Word → Word → Nat → Word × Word) (code : BitVec 9) (s : State) : Res :=
  .ok { s with ac := (f s.ac s.io (shiftCount code)).1, io := (f s.ac s.io (shiftCount code)).2 }

/-- RAL (R132). -/
def execRal (code : BitVec 9) (s : State) : Host.Outcome State Fault Refusal := (shiftAc rotLeft code s).finish

/-- RIL (R133). -/
def execRil (code : BitVec 9) (s : State) : Host.Outcome State Fault Refusal := (shiftIo rotLeft code s).finish

/-- RCL (R134). -/
def execRcl (code : BitVec 9) (s : State) : Host.Outcome State Fault Refusal := (shiftPair pairRotLeft code s).finish

/-- SAL (R135). -/
def execSal (code : BitVec 9) (s : State) : Host.Outcome State Fault Refusal := (shiftAc arithLeft code s).finish

/-- SIL (R136). -/
def execSil (code : BitVec 9) (s : State) : Host.Outcome State Fault Refusal := (shiftIo arithLeft code s).finish

/-- SCL (R137). -/
def execScl (code : BitVec 9) (s : State) : Host.Outcome State Fault Refusal := (shiftPair pairArithLeft code s).finish

/-- RAR (R138). -/
def execRar (code : BitVec 9) (s : State) : Host.Outcome State Fault Refusal := (shiftAc rotRight code s).finish

/-- RIR (R139). -/
def execRir (code : BitVec 9) (s : State) : Host.Outcome State Fault Refusal := (shiftIo rotRight code s).finish

/-- RCR (R140). -/
def execRcr (code : BitVec 9) (s : State) : Host.Outcome State Fault Refusal := (shiftPair pairRotRight code s).finish

/-- SAR (R141). -/
def execSar (code : BitVec 9) (s : State) : Host.Outcome State Fault Refusal := (shiftAc arithRight code s).finish

/-- SIR (R142). -/
def execSir (code : BitVec 9) (s : State) : Host.Outcome State Fault Refusal := (shiftIo arithRight code s).finish

/-- SCR (R143). -/
def execScr (code : BitVec 9) (s : State) : Host.Outcome State Fault Refusal := (shiftPair pairArithRight code s).finish

end Sys2Proof.Machine
end

