-- ==== Sys2Proof/Machine/Skip.lean ====
section
/-! DEFINITION. The skip group (`45_skip.md` R126 to R128). -/

namespace Sys2Proof.Machine

/-- Whether one of the selected conditions of a skip word holds (R126). -/
def skipTests (b : SkipBits) (s : State) : Bool :=
  (s.straps.opt1d && b.sni && s.io != 0#18) ||
  (b.spi && !signOf s.io) ||
  (b.szo && !s.ov) ||
  (b.sma && signOf s.ac) ||
  (b.spa && !signOf s.ac) ||
  (b.sza && s.ac == 0#18) ||
  (b.sw != 0#3 && s.ss &&& sel b.sw == 0#6) ||
  (b.fl != 0#3 && programFlags s.pf &&& sel b.fl == 0#6)

/-- SKP (R126): the conditions are OR'd, the result inverted if asked; SZO clears OV after the test. -/
def execSkp (b : SkipBits) (s : State) : Host.Outcome State Fault Refusal :=
  (Res.ok { s.skipIf (xor (skipTests b s) b.inv) with ov := s.ov && !b.szo }).finish

end Sys2Proof.Machine
end

