-- ==== Sys2Proof/Machine/Undefined.lean ====
section
/-! DEFINITION. The rows of the table that are undefined instructions in every configuration
(`30_encoding.md` R80, `46_shift.md` R144, `60_exceptions.md` R184). -/

namespace Sys2Proof.Machine

/-- Opcode 000 (R80, R184). -/
def execUndef0 (_bits : BitVec 13) (s : State) : Host.Outcome State Fault Refusal := (undefinedInstruction s).finish

/-- Shift sub-opcode 000 (R144, R184). -/
def execSftUndef00 (_code : BitVec 9) (s : State) : Host.Outcome State Fault Refusal := (undefinedInstruction s).finish

/-- Shift sub-opcode 004 (R144, R184). -/
def execSftUndef04 (_code : BitVec 9) (s : State) : Host.Outcome State Fault Refusal := (undefinedInstruction s).finish

/-- Shift sub-opcode 010 (R144, R184). -/
def execSftUndef10 (_code : BitVec 9) (s : State) : Host.Outcome State Fault Refusal := (undefinedInstruction s).finish

/-- Shift sub-opcode 014 (R144, R184). -/
def execSftUndef14 (_code : BitVec 9) (s : State) : Host.Outcome State Fault Refusal := (undefinedInstruction s).finish

end Sys2Proof.Machine
end

