-- ==== Sys2Proof/Machine/Xct.lean ====
section
/-! DEFINITION. XCT (`40_logical_xct.md` R89): the word it fetches is dispatched as an instruction. -/

namespace Sys2Proof.Machine

/-- The dispatch that XCT re-enters: every instruction by its own meaning, and XCT by `again`, the chain
with one level less. -/
def dispatchExecuted (again : Bool → BitVec 12 → State → Host.Outcome State Fault Refusal) (i : Instr) (s : State) :
    Host.Outcome State Fault Refusal :=
  match i with
  | .undef0 bits => execUndef0 bits s
  | .and ind y => execAnd ind y s
  | .ior ind y => execIor ind y s
  | .xor ind y => execXor ind y s
  | .xct ind y => again ind y s
  | .lch auto y => execLch auto y s
  | .dch auto y => execDch auto y s
  | .cal y => execCal y s
  | .jda y => execJda y s
  | .lac ind y => execLac ind y s
  | .lio ind y => execLio ind y s
  | .dac ind y => execDac ind y s
  | .dap ind y => execDap ind y s
  | .dip ind y => execDip ind y s
  | .dio ind y => execDio ind y s
  | .dzm ind y => execDzm ind y s
  | .tad ind y => execTad ind y s
  | .add ind y => execAdd ind y s
  | .sub ind y => execSub ind y s
  | .idx ind y => execIdx ind y s
  | .isp ind y => execIsp ind y s
  | .sad ind y => execSad ind y s
  | .sas ind y => execSas ind y s
  | .mul ind y => execMul ind y s
  | .mus ind y => execMus ind y s
  | .div ind y => execDiv ind y s
  | .dis ind y => execDis ind y s
  | .jmpDismiss l => execJmpDismiss l s
  | .jmp ind y => execJmp ind y s
  | .jsp ind y => execJsp ind y s
  | .skp b => execSkp b s
  | .ral code => execRal code s
  | .ril code => execRil code s
  | .rcl code => execRcl code s
  | .sal code => execSal code s
  | .sil code => execSil code s
  | .scl code => execScl code s
  | .rar code => execRar code s
  | .rir code => execRir code s
  | .rcr code => execRcr code s
  | .sar code => execSar code s
  | .sir code => execSir code s
  | .scr code => execScr code s
  | .sftUndef00 code => execSftUndef00 code s
  | .sftUndef04 code => execSftUndef04 code s
  | .sftUndef10 code => execSftUndef10 code s
  | .sftUndef14 code => execSftUndef14 code s
  | .law c n => execLaw c n s
  | .rngClr w c sub => execRngClr w c sub s
  | .rngSet w c sub => execRngSet w c sub s
  | .rtb w c sub => execRtb w c sub s
  | .dsc w c sub => execDsc w c sub s
  | .asc w c sub => execAsc w c sub s
  | .isb w c sub => execIsb w c sub s
  | .cac w c sub => execCac w c sub s
  | .lsm w c sub => execLsm w c sub s
  | .esm w c sub => execEsm w c sub s
  | .cbs w c sub => execCbs w c sub s
  | .lrm w c sub => execLrm w c sub s
  | .erm w c sub => execErm w c sub s
  | .rnm w c sub => execRnm w c sub s
  | .rsm w c sub => execRsm w c sub s
  | .lem w sub => execLem w sub s
  | .eem w sub => execEem w sub s
  | .iot w c sub dev => execIot w c sub dev s
  | .spc bits => execSpc bits s
  | .opr b => execOpr b s

/-- The re-entry with the word in MB: count it, load IR, dispatch (R89). -/
def reenter (again : Bool → BitVec 12 → State → Host.Outcome State Fault Refusal) (s : State) :
    Host.Outcome State Fault Refusal :=
  dispatchExecuted again (decode s.straps.mdv s.mb) { s with xctCount := s.xctCount + 1, ir := s.mb }

/-- XCT with `n` levels of nesting left (R89): with none left it stops before any memory access. -/
def execXctFrom : Nat → Bool → BitVec 12 → State → Host.Outcome State Fault Refusal
  | 0, _, _, s => (Res.stop .xct s).finish
  | n + 1, ind, y, s =>
    match operand ind y s with
    | .ok t => reenter (execXctFrom n) t
    | r => r.finish

/-- XCT (R89): `xct_max` less the levels already used are left. -/
def execXct (ind : Bool) (y : BitVec 12) (s : State) : Host.Outcome State Fault Refusal :=
  execXctFrom (s.straps.xctMax - s.xctCount) ind y s

end Sys2Proof.Machine
end

