-- ==== Sys2Proof/Machine/Dispatch.lean ====
section
/-! DEFINITION. One arm for each instruction: the call of its meaning. -/

namespace Sys2Proof.Machine

/-- The meaning of an instruction, fetched and with PC already past it (`40_logical_xct.md` R85). -/
def exec (i : Instr) (s : State) : Host.Outcome State Fault Refusal :=
  match i with
  | .undef0 bits => Sys2Proof.Machine.execUndef0 bits s
  | .and ind y => Sys2Proof.Machine.execAnd ind y s
  | .ior ind y => Sys2Proof.Machine.execIor ind y s
  | .xor ind y => Sys2Proof.Machine.execXor ind y s
  | .xct ind y => Sys2Proof.Machine.execXct ind y s
  | .lch auto y => Sys2Proof.Machine.execLch auto y s
  | .dch auto y => Sys2Proof.Machine.execDch auto y s
  | .cal y => Sys2Proof.Machine.execCal y s
  | .jda y => Sys2Proof.Machine.execJda y s
  | .lac ind y => Sys2Proof.Machine.execLac ind y s
  | .lio ind y => Sys2Proof.Machine.execLio ind y s
  | .dac ind y => Sys2Proof.Machine.execDac ind y s
  | .dap ind y => Sys2Proof.Machine.execDap ind y s
  | .dip ind y => Sys2Proof.Machine.execDip ind y s
  | .dio ind y => Sys2Proof.Machine.execDio ind y s
  | .dzm ind y => Sys2Proof.Machine.execDzm ind y s
  | .tad ind y => Sys2Proof.Machine.execTad ind y s
  | .add ind y => Sys2Proof.Machine.execAdd ind y s
  | .sub ind y => Sys2Proof.Machine.execSub ind y s
  | .idx ind y => Sys2Proof.Machine.execIdx ind y s
  | .isp ind y => Sys2Proof.Machine.execIsp ind y s
  | .sad ind y => Sys2Proof.Machine.execSad ind y s
  | .sas ind y => Sys2Proof.Machine.execSas ind y s
  | .mul ind y => Sys2Proof.Machine.execMul ind y s
  | .mus ind y => Sys2Proof.Machine.execMus ind y s
  | .div ind y => Sys2Proof.Machine.execDiv ind y s
  | .dis ind y => Sys2Proof.Machine.execDis ind y s
  | .jmpDismiss l => Sys2Proof.Machine.execJmpDismiss l s
  | .jmp ind y => Sys2Proof.Machine.execJmp ind y s
  | .jsp ind y => Sys2Proof.Machine.execJsp ind y s
  | .skp b => Sys2Proof.Machine.execSkp b s
  | .ral code => Sys2Proof.Machine.execRal code s
  | .ril code => Sys2Proof.Machine.execRil code s
  | .rcl code => Sys2Proof.Machine.execRcl code s
  | .sal code => Sys2Proof.Machine.execSal code s
  | .sil code => Sys2Proof.Machine.execSil code s
  | .scl code => Sys2Proof.Machine.execScl code s
  | .rar code => Sys2Proof.Machine.execRar code s
  | .rir code => Sys2Proof.Machine.execRir code s
  | .rcr code => Sys2Proof.Machine.execRcr code s
  | .sar code => Sys2Proof.Machine.execSar code s
  | .sir code => Sys2Proof.Machine.execSir code s
  | .scr code => Sys2Proof.Machine.execScr code s
  | .sftUndef00 code => Sys2Proof.Machine.execSftUndef00 code s
  | .sftUndef04 code => Sys2Proof.Machine.execSftUndef04 code s
  | .sftUndef10 code => Sys2Proof.Machine.execSftUndef10 code s
  | .sftUndef14 code => Sys2Proof.Machine.execSftUndef14 code s
  | .law c n => Sys2Proof.Machine.execLaw c n s
  | .rngClr w c sub => Sys2Proof.Machine.execRngClr w c sub s
  | .rngSet w c sub => Sys2Proof.Machine.execRngSet w c sub s
  | .rtb w c sub => Sys2Proof.Machine.execRtb w c sub s
  | .dsc w c sub => Sys2Proof.Machine.execDsc w c sub s
  | .asc w c sub => Sys2Proof.Machine.execAsc w c sub s
  | .isb w c sub => Sys2Proof.Machine.execIsb w c sub s
  | .cac w c sub => Sys2Proof.Machine.execCac w c sub s
  | .lsm w c sub => Sys2Proof.Machine.execLsm w c sub s
  | .esm w c sub => Sys2Proof.Machine.execEsm w c sub s
  | .cbs w c sub => Sys2Proof.Machine.execCbs w c sub s
  | .lrm w c sub => Sys2Proof.Machine.execLrm w c sub s
  | .erm w c sub => Sys2Proof.Machine.execErm w c sub s
  | .rnm w c sub => Sys2Proof.Machine.execRnm w c sub s
  | .rsm w c sub => Sys2Proof.Machine.execRsm w c sub s
  | .lem w sub => Sys2Proof.Machine.execLem w sub s
  | .eem w sub => Sys2Proof.Machine.execEem w sub s
  | .iot w c sub dev => Sys2Proof.Machine.execIot w c sub dev s
  | .spc bits => Sys2Proof.Machine.execSpc bits s
  | .opr b => Sys2Proof.Machine.execOpr b s

end Sys2Proof.Machine
end

