-- ==== Sys2Proof/Machine/Engine.lean ====
section
/-! DEFINITION. What happens around an instruction: the environment's hook, the fetch, the console of a
stopped machine (`60_exceptions.md` R170, R171, R195; `70_reset_and_hazards.md` R210 to R212). -/

namespace Sys2Proof.Machine

/-- One action of the environment's hook (R171). -/
def hookAction (a : HookAction) (s : State) : State :=
  match a with
  | .port p => portAction p s
  | .senseSwitches v => { s with ss := v }
  | .testWord v => { s with tw := v }

/-- What the environment does in this iteration; with nothing left in the list, nothing (R171). -/
def nextHook (s : State) : Hook := s.hooks.headD ⟨[], none, false⟩

/-- Step 1 of the iteration: the hook's actions, then an evaluation in the 16-channel configuration (R170). -/
def runHook (s : State) : State :=
  let t := (nextHook s).actions.foldl (fun u a => hookAction a u) { s with hooks := s.hooks.tail }
  if t.straps.sbs16 then t.evalBreaks else t

/-- The fetch's read, with MA at PC (R170 step 4). -/
def fetchRead (s : State) : Res := readWord (s.withMa s.pc)

/-- The word in MB taken as the instruction: IR loaded, PC advanced, the nesting counter reset (R170 step 4). -/
def loadInstruction (s : State) : State := { s with ir := s.mb, pc := incrAddr s.pc, xctCount := 0 }

/-- Steps 4 to 7 of the iteration: fetch, decode, execute; a violation on the fetch is redirected with PC
unchanged (R170). -/
def fetchAndExecute (s : State) : Host.Outcome State Fault Refusal :=
  match fetchRead s with
  | .ok t => exec (decode t.straps.mdv t.mb) (loadInstruction t)
  | r => r.finish

/-- One iteration of the engine loop of a running machine (R170, R185). -/
def iteration (s : State) : Host.Outcome State Fault Refusal :=
  let t := runHook s
  match (nextHook s).stop with
  | some k => (Res.stop (.external k) t).finish
  | none =>
    if admissible t then (interruptEntry t).finish
    else if (nextHook s).breakpoint then (Res.stop .ibkpt t).finish
    else fetchAndExecute t

/-- Reset (R210), a console action: AC, IO, PC, SS, TW, IR and memory are unchanged, and so are the
model's inputs. `OPT_SBS16` is sampled from the configured unit flag (R211). -/
def consoleReset (s : State) : State :=
  { s with
    straps := { s.straps with sbs16 := s.unitSbs16 }
    sbs := s.straps.sbsInit
    extm := s.straps.extmInit
    sbsReq := 0#16
    sbsEnb := 0#16
    sbsAct := 0#16
    sbsLvl := 0#5
    ov := false
    pf := 0#8
    rm := false
    rmask := 0#18
    rtb := 0#18
    rname := .identity
    ioh := false
    ios := false
    cpls := []
    ma := 0#16
    mb := 0#18
    run := .stopped none }

/-- The straps with the two bounds that the console may change between runs (R211); an `ind_max` of 0 is none
that R7 allows, and the bound stays as it was (log entry 35). -/
def withLimits (c : Straps) (indMax xctMax : Nat) : Straps :=
  { c with indMax := if 1 ≤ indMax then indMax else c.indMax, xctMax := xctMax }

/-- One console command to a stopped machine (R195, R210 to R212, R217). -/
def consoleCommand (c : ConsoleCmd) (s : State) : State :=
  match c with
  | .start pc => { s with pc := pc, run := .running }
  | .resume => { s with run := .running }
  | .reset => consoleReset s
  | .setPc pc => { s with pc := pc }
  | .deposit a v => s.store a v
  | .setAc v => { s with ac := v }
  | .setIo v => { s with io := v }
  | .senseSwitches v => { s with ss := v }
  | .testWord v => { s with tw := v }
  | .limits indMax xctMax => { s with straps := withLimits s.straps indMax xctMax }
  | .configureSbs16 b => { s with unitSbs16 := b }

/-- A stopped machine does nothing (R195); the console's next command, if there is one, is carried out. -/
def consoleStep (s : State) : State :=
  match s.console with
  | [] => s
  | c :: cs => consoleCommand c { s with console := cs }

end Sys2Proof.Machine
end

