-- ==== Sys2Proof/Machine/Step.lean ====
section
/-! DEFINITION. One step of the machine: an iteration of the engine loop while it runs (`60_exceptions.md`
R170), the console while it is stopped (R195). -/

namespace Sys2Proof.Machine

/-- One step. -/
def step (s : State) : Host.Outcome State Fault Refusal :=
  match s.run with
  | .running => iteration s
  | .stopped _ => .next (consoleStep s)

/-- `s` with the instruction word `w` where the next fetch finds it: in memory at PC, the machine running
(log entry 5). -/
def State.withFetchWord (s : State) (_nbits w : Nat) : State :=
  { s with run := .running, mem := Memory.set s.mem s.pc.toNat (BitVec.ofNat 18 w) }

end Sys2Proof.Machine
end

