-- ==== Sys2Proof/Safety.lean ====
section
/-! DEFINITION. The terms the statements use: the invariant of the machine, how an instruction ends
early, which instructions are I/O transfers, undefined, or store, and what an indirect chain visits. -/

namespace Sys2Proof.Machine

/-- The invariant of the machine: what every step keeps, whatever the environment does. -/
structure Inv (s : State) : Prop where
  /-- the straps meet their constraints: `ind_max >= 1` (R7), trap codes non-zero and different (R182) -/
  strapsWf : s.straps.wf = true
  /-- memory is in its one canonical form -/
  memCanonical : s.mem.wf = true
  /-- no word at or above `MEMSIZE` is stored (R56) -/
  memInside : ∀ c ∈ s.mem, c.1 < s.straps.memsize
  /-- the latch equals a fresh evaluation (R37, R179) -/
  latch : s.sbsLvl = sbsEval s.sbsReq s.sbsAct
  /-- restrict mode is on only with the PDP-1D option and the 16-channel controller (R8) -/
  restrict : s.rm = true → s.straps.opt1d = true ∧ s.straps.sbs16 = true
  /-- without the PDP-1D option the link and the ring-mode bit stay 0 (R26) -/
  noLinkRing : s.straps.opt1d = false → s.pf &&& 0o300#8 = 0#8
  /-- without the 16-channel controller its masks stay empty (R172) -/
  noLevels : s.straps.sbs16 = false → s.sbsReq = 0#16 ∧ s.sbsEnb = 0#16 ∧ s.sbsAct = 0#16
  /-- the rename table stays identity (R41) -/
  rename : s.rname = .identity
  /-- no device is listed twice among those that owe a completion (R44) -/
  cplsNodup : s.cpls.Nodup

/-- `o` is how an instruction ends whose part `r` ended early: a trap is redirected, a stop stops. -/
def Forwards (r : Res) (o : Host.Outcome State Fault Refusal) : Prop :=
  (∀ t, r = .trap t → o = .next (trapRedirect t)) ∧
  (∀ k t, r = .stop k t → o = .next (t.stopWith k))

/-- How an instruction that reads the word at its effective address ends when it gets no operand: the
resolution's own end, or a trap at the read with the trap buffer recording MB as the resolution left it. -/
def EndsWithoutOperand (ind : Bool) (y : BitVec 12) (s : State) (o : Host.Outcome State Fault Refusal) : Prop :=
  Forwards (ea ind y s) o ∧
  ∀ t, ea ind y s = .ok t → violation t t.ma = true → o = .next (trapRedirect (t.recordTrap .access))

/-- The state in which an IOT that has an answer gets it: with the wait bit, the latch set and PC backed up
(R151, R152). -/
def issued (w : Bool) (s : State) : State := if w then { s with pc := decrAddr s.pc, ioh := true } else s

/-- An issue of an IOT that asks for an answer: no wait bit, or the first issue with it (R152). -/
def FirstIssue (w : Bool) (s : State) : Prop := w = false ∨ s.ioh = false

/-- The wait bit of an I/O transfer; none for the other instructions. -/
def waitBit : Instr → Option Bool
  | .rngClr w _ _ | .rngSet w _ _ | .rtb w _ _ | .dsc w _ _ | .asc w _ _ | .isb w _ _ | .cac w _ _ => some w
  | .lsm w _ _ | .esm w _ _ | .cbs w _ _ | .lrm w _ _ | .erm w _ _ | .rnm w _ _ | .rsm w _ _ => some w
  | .lem w _ | .eem w _ | .iot w _ _ _ => some w
  | _ => none

/-- The instructions other than I/O transfers that are undefined under the straps `c` (R80). -/
def undefinedUnder (c : Straps) : Instr → Bool
  | .undef0 _ | .sftUndef00 _ | .sftUndef04 _ | .sftUndef10 _ | .sftUndef14 _ => true
  | .lch _ _ | .dch _ _ | .tad _ _ | .spc _ => !c.opt1d
  | _ => false

/-- Whether memory changes at most in the word at `storeAddress`: not XCT, which executes another word, not
the character instructions, which write their pointer too, not the I/O transfers, whose devices may write. -/
def storesAtMostOneWord : Instr → Bool
  | .xct _ _ | .lch _ _ | .dch _ _ => false
  | i => (waitBit i).isNone

/-- Where a resolved reference stores. -/
def resolvedAddress : Res → Option Addr
  | .ok t => some t.ma
  | _ => none

/-- The address an instruction stores to: the effective address, or the save location of CAL and JDA. -/
def storeAddress (i : Instr) (s : State) : Option Addr :=
  match i with
  | .dac ind y | .dap ind y | .dip ind y | .dio ind y | .dzm ind y | .idx ind y | .isp ind y =>
    resolvedAddress (ea ind y s)
  | .cal _ => some (directAddr s.pc 0o100#12)
  | .jda y => some (directAddr s.pc y)
  | _ => none

/-- The `n`-th cell that an indirect walk of non-extend mode visits from the cell `a` (R60). -/
def chainCell (s : State) (a : Addr) : Nat → Addr
  | 0 => a
  | n + 1 => chainAddr s.pc (s.word (chainCell s a n))

/-- The number a word stands for in one's complement (R14); both zeros are 0. -/
def valueOf (w : Word) : Int := if signOf w then -((~~~w).toNat : Int) else w.toNat

end Sys2Proof.Machine
end

