-- ==== Sys2Proof/Certificates/Slice0/Obligations.lean ====
section
/-! DEFINITION. The statements about the model, for the provers. Each docstring says what it formalises;
where a statement rests on a choice of the spec or of the model, it names the sentence or the log entry. -/

open Sys2Proof Sys2Proof.Machine

/-! ### Decoding and encoding -/

/-- Decoding the word of a well-formed instruction gives the instruction back (`30_encoding.md`; the bit
positions are the spec's decisions D4, D5, D14, D29, D34 to D36). -/
def Obligations.DecodeOfEncode : Prop :=
  ∀ (mdv : Bool) (i : Instr), wellFormed mdv i = true → decode mdv (encode i) = i

/-- Every word decodes to a well-formed instruction whose word it is: no bit is dropped and no word is left
out ("The rows cover all 2^18 words", `30_encoding.md`). -/
def Obligations.EncodeOfDecode : Prop :=
  ∀ (mdv : Bool) (w : Word), wellFormed mdv (decode mdv w) = true ∧ encode (decode mdv w) = w

/-- Words of the spec's examples and tables decode to the instructions they stand for, and a number that is
no 18-bit word is rejected (`30_encoding.md`, `48_iot.md`). The opcode numbers and the bit positions are the spec's
decisions D4, D5, D14, D26, D29 and D35 to D37 (log entries 10 and 24, PRESUMED), not words of the source. -/
def Obligations.DecodesWordsOfTheSpec : Prop :=
  decode true 0o020100#18 = .and false 0o100#12 ∧ decode true 0o210300#18 = .lac true 0o300#12 ∧
  decode true 0o170300#18 = .jda 0o300#12 ∧ decode true 0o160555#18 = .cal 0o555#12 ∧
  decode true 0o610011#18 = .jmpDismiss 2#4 ∧ decode true 0o610300#18 = .jmp true 0o300#12 ∧
  decode true 0o540100#18 = .mul false 0o100#12 ∧ decode false 0o540100#18 = .mus false 0o100#12 ∧
  decode true 0o661007#18 = .ral 0o7#9 ∧ decode true 0o664777#18 = .sftUndef04 0o777#9 ∧
  decode true 0o710005#18 = .law true 5#12 ∧ decode true 0o724074#18 = .eem false 0#5 ∧
  decode true 0o720251#18 = .asc false false 2#5 ∧ decode true 0o730003#18 = .iot true false 0#5 3#6 ∧
  decode true 0o000123#18 = .undef0 0o123#13 ∧
  decodeBits true 0o1000000 = .error .notAWord

/-! ### The engine loop -/

/-- A step of a running machine in which the environment forces no stop, no break is admissible, there is no
breakpoint and PC's word may be read is exec of the instruction that word decodes to, on the state after
the hook and the fetch: MA is PC, MB and IR the word, PC advanced, the nesting counter 0
(`60_exceptions.md` section 1). -/
def Obligations.StepRunsTheFetchedInstruction : Prop :=
  ∀ (s t : State), s.run = .running → t = runHook s → (nextHook s).stop = none → admissible t = false →
    (nextHook s).breakpoint = false → violation t t.pc = false →
    step s = exec (decode t.straps.mdv (t.word t.pc))
      { t with ma := t.pc, mb := t.word t.pc, ir := t.word t.pc, pc := incrAddr t.pc, xctCount := 0 }

/-- A step whose fetch is denied: the trap buffer records MB as it was, level 14 is requested and the masks
evaluated; PC and IR are unchanged and nothing is executed (`60_exceptions.md` section 1, decisions D9
and D11). -/
def Obligations.FetchViolationIsRedirected : Prop :=
  ∀ (s t : State), s.run = .running → t = runHook s → (nextHook s).stop = none → admissible t = false →
    (nextHook s).breakpoint = false → violation t t.pc = true →
    step s = .next { t with
      ma := t.pc
      rtb := trapRecord t .access
      sbsReq := setLevel t.sbsReq 14#4
      sbsLvl := sbsEval (setLevel t.sbsReq 14#4) t.sbsAct }

/-- An admissible break is taken instead of a fetch. In the 16-channel configuration the level's request is
cleared, its active bit set and the masks evaluated; in the 1-channel configuration, in which restrict
mode is off (R8), IP is set and RQ cleared. AC, the packed PC word and IO go to the three words of the
status block, PC to the fourth; extend mode and overflow are cleared; nothing else changes
(`60_exceptions.md` section 4; that entry clears RQ is decision D7, the layout of the packed word D6). -/
def Obligations.InterruptEntry : Prop :=
  ∀ (s t : State), s.run = .running → t = runHook s → (nextHook s).stop = none → admissible t = true →
    (t.straps.sbs16 = true →
      step s = .next { t with
        sbsReq := clearLevel t.sbsReq (pendingLevel t)
        sbsAct := setLevel t.sbsAct (pendingLevel t)
        sbsLvl := sbsEval (clearLevel t.sbsReq (pendingLevel t)) (setLevel t.sbsAct (pendingLevel t))
        mem := (((t.store (statusBlock (pendingLevel t)) t.ac).store (statusBlock (pendingLevel t) + 1#16)
          (epcWord t)).store (statusBlock (pendingLevel t) + 2#16) t.io).mem
        ma := statusBlock (pendingLevel t) + 2#16
        mb := t.io
        pc := statusBlock (pendingLevel t) + 3#16
        extm := false
        ov := false }) ∧
    (t.straps.sbs16 = false → t.rm = false →
      step s = .next { t with
        sbs := { t.sbs with ip := true, rq := false }
        mem := (((t.store 0#16 t.ac).store 1#16 (epcWord t)).store 2#16 t.io).mem
        ma := 2#16
        mb := t.io
        pc := 3#16
        extm := false
        ov := false })

/-- The hook at the head of an iteration, and what comes after it in what order. Its actions are applied one after
the other, then the masks are evaluated in the 16-channel configuration; with nothing listed it only evaluates. A DMA
write stores past every check, and nothing at or above `MEMSIZE`; a DMA read changes nothing; a completion sets the
synchronizer and takes the device off those that owe one; a device that comes to owe one joins them; the switches
take new values (a break request is `BreakRequestPort`'s). A stop forced by the environment comes before a break, a
break before a breakpoint, and a breakpoint stops with PC unchanged and nothing fetched (`60_exceptions.md` sections 1,
6 and 9; the completion port is decision D46, log entry 17; the DMA port D21, log entry 34; the list of actions as the
environment is the model's, log entry 6). -/
def Obligations.ForcedStopAndBreakpoint : Prop :=
  (∀ (s : State), s.run = .running →
    (∀ k, (nextHook s).stop = some k → step s = .next ((runHook s).stopWith (.external k))) ∧
    ((nextHook s).stop = none → admissible (runHook s) = true → (nextHook s).breakpoint = true →
      step s = (interruptEntry (runHook s)).finish) ∧
    ((nextHook s).stop = none → admissible (runHook s) = false → (nextHook s).breakpoint = true →
      step s = .next ((runHook s).stopWith .ibkpt))) ∧
  (∀ (s : State) (k : Option Nat) (b : Bool) (hs : List Hook),
    (s.hooks = [] → runHook s =
      { s with sbsLvl := if s.straps.sbs16 then sbsEval s.sbsReq s.sbsAct else s.sbsLvl }) ∧
    (s.hooks = ⟨[], k, b⟩ :: hs → runHook s =
      { s with hooks := hs, sbsLvl := if s.straps.sbs16 then sbsEval s.sbsReq s.sbsAct else s.sbsLvl }) ∧
    (∀ x xs, s.hooks = ⟨x :: xs, k, b⟩ :: hs →
      runHook s = runHook { hookAction x s with hooks := ⟨xs, k, b⟩ :: hs })) ∧
  (∀ (s : State) (a : Addr) (v : Word) (t : State), t = hookAction (.port (.dmaWrite a v)) s →
    t = { s with mem := t.mem } ∧ (∀ c, c ≠ a → t.word c = s.word c) ∧
    (s.mem.wf = true → a.toNat < s.straps.memsize → t.word a = v) ∧ (s.straps.memsize ≤ a.toNat → t = s)) ∧
  (∀ (s : State) (a : Addr) (d : BitVec 6) (l : BitVec 4),
    hookAction (.port (.breakRequest l)) s = portAction (.breakRequest l) s ∧
    hookAction (.port (.dmaRead a)) s = s ∧
    (s.cpls.Nodup → ∃ ds, hookAction (.port (.complete d)) s = { s with ios := true, cpls := ds } ∧
      ∀ e, e ∈ ds ↔ e ∈ s.cpls ∧ e ≠ d) ∧
    (∃ ds, hookAction (.port (.owe d)) s = { s with cpls := ds } ∧ ∀ e, e ∈ ds ↔ e = d ∨ e ∈ s.cpls) ∧
    (∀ v, hookAction (.senseSwitches v) s = { s with ss := v }) ∧
    (∀ v, hookAction (.testWord v) s = { s with tw := v }))

/-- The break request port: in the 16-channel configuration a request on an enabled level is posted and one
on a disabled level dropped; in the 1-channel configuration RQ is set and the level ignored. Setting or clearing
a level of a mask changes that level and no other (`60_exceptions.md` R176). -/
def Obligations.BreakRequestPort : Prop :=
  ∀ (s : State) (l : BitVec 4),
    (s.straps.sbs16 = true → s.sbsEnb.getLsbD l.toNat = true →
      portAction (.breakRequest l) s = { s with sbsReq := setLevel s.sbsReq l }) ∧
    (s.straps.sbs16 = true → s.sbsEnb.getLsbD l.toNat = false → portAction (.breakRequest l) s = s) ∧
    (s.straps.sbs16 = false →
      portAction (.breakRequest l) s = { s with sbs := { s.sbs with rq := true } }) ∧
    (∀ (m : BitVec 16) (k : Nat), k < 16 →
      (setLevel m l).getLsbD k = (if k = l.toNat then true else m.getLsbD k) ∧
      (clearLevel m l).getLsbD k = (if k = l.toNat then false else m.getLsbD k))

/-- A stopped machine does nothing but what the console's next command says: start sets PC and runs; resume runs with
the state as it is; reset gives every register its reset value, samples `OPT_SBS16` from the configured unit flag and
leaves AC, IO, PC, SS, TW and memory unchanged; PC, AC, IO, the switches and a word of memory are set; the two bounds
are adjusted, but `ind_max` never to 0; the unit flag is set (`60_exceptions.md` section 8, decision D25;
`70_reset_and_hazards.md` sections 1 and 5, decision D12; the list of commands, and that a bound of 0 leaves the old
one, are the model's, log entry 35; the flag as a field, log entry 3). -/
def Obligations.StoppedMachine : Prop :=
  ∀ (s : State) (r : Option StopReason) (cs : List ConsoleCmd), s.run = .stopped r →
    (s.console = [] → step s = .next s) ∧
    (∀ pc, s.console = .start pc :: cs → step s = .next { s with console := cs, pc := pc, run := .running }) ∧
    (s.console = .resume :: cs → step s = .next { s with console := cs, run := .running }) ∧
    (s.console = .reset :: cs → step s = .next { s with
      console := cs, straps := { s.straps with sbs16 := s.unitSbs16 }
      sbs := s.straps.sbsInit, extm := s.straps.extmInit, sbsReq := 0#16, sbsEnb := 0#16
      sbsAct := 0#16, sbsLvl := 0#5, ov := false, pf := 0#8, rm := false, rmask := 0#18, rtb := 0#18
      rname := .identity, ioh := false, ios := false, cpls := [], ma := 0#16, mb := 0#18
      run := .stopped none }) ∧
    (∀ pc, s.console = .setPc pc :: cs → step s = .next { s with console := cs, pc := pc }) ∧
    (∀ a v, s.console = .deposit a v :: cs → ∃ m, step s = .next { s with console := cs, mem := m } ∧
      (∀ b, b ≠ a → ({ s with mem := m } : State).word b = s.word b) ∧
      (s.mem.wf = true → a.toNat < s.straps.memsize → ({ s with mem := m } : State).word a = v) ∧
      (s.straps.memsize ≤ a.toNat → m = s.mem)) ∧
    (∀ v, s.console = .setAc v :: cs → step s = .next { s with console := cs, ac := v }) ∧
    (∀ v, s.console = .setIo v :: cs → step s = .next { s with console := cs, io := v }) ∧
    (∀ v, s.console = .senseSwitches v :: cs → step s = .next { s with console := cs, ss := v }) ∧
    (∀ v, s.console = .testWord v :: cs → step s = .next { s with console := cs, tw := v }) ∧
    (∀ i x, s.console = .limits i x :: cs → step s = .next { s with
      console := cs
      straps := { s.straps with indMax := if i = 0 then s.straps.indMax else i, xctMax := x } }) ∧
    (∀ b, s.console = .configureSbs16 b :: cs → step s = .next { s with console := cs, unitSbs16 := b })

/-! ### Invariants and whole-machine properties -/

/-- The invariant holds after reset (`10_state.md` section 7; the reset values are those of decision D12 and of the log
entries 2, 3 and 9). -/
def Obligations.InvariantAtReset : Prop := Inv State.reset

/-- Every step keeps the invariant: the straps meet their constraints (`ind_max` at least 1), memory in canonical form and inside `MEMSIZE`, the latch equal to a fresh
evaluation, restrict mode only with both options, no link or ring bit without the PDP-1D, empty masks without
the 16-channel controller, the rename table identity, the owing devices listed once (`00_scope.md` section 4,
`10_state.md` sections 4 to 6, `60_exceptions.md` section 3). The rename table clause rests on the refusal of pulse
066 (D20), that of `ind_max` on the console's check (log entry 35). -/
def Obligations.StepKeepsInvariant : Prop :=
  ∀ (s t : State), Inv s → step s = .next t → Inv t

/-- A step of a running machine changes no strap (`00_scope.md` section 4: "no instruction changes it"; that
`OPT_SBS16` is "constant until the next reset": `70_reset_and_hazards.md` section 1), nor the configured unit flag, and
takes no command from the console's list. -/
def Obligations.RunningStepKeepsStraps : Prop :=
  ∀ (s t : State), s.run = .running → step s = .next t → t.straps = s.straps ∧ t.unitSbs16 = s.unitSbs16 ∧ t.console = s.console

/-- What is refused: a first issue, by an unrestricted program with the PDP-1D option, of RNM, which writes the rename
table, and, without the 16-channel controller, of ERM, which enters restrict mode; or an XCT whose word is so refused.
Nothing else ever is, and these are (`48_iot.md` section 3: "a model refuses 066"; `00_scope.md` section 4: "a model
refuses the pulse that would set it"; decisions D10 and D20, log entries 14 and 15). -/
def Obligations.OnlyTwoPulsesAreRefused : Prop :=
  (∀ (i : Instr) (s : State) (r : Refusal), exec i s = .refused r →
    s.straps.opt1d = true ∧ restricted s = false ∧
      ((∃ w c sub, i = .rnm w c sub ∧ FirstIssue w s ∧ r = .renameTable) ∨
       (∃ w c sub, i = .erm w c sub ∧ FirstIssue w s ∧ s.straps.sbs16 = false ∧ r = .restrictModeWithoutSbs16) ∨
       (∃ ind y t, i = .xct ind y ∧ s.xctCount < s.straps.xctMax ∧ ea ind y s = .ok t ∧ violation t t.ma = false ∧
         exec (decode s.straps.mdv (t.word t.ma))
           { t with mb := t.word t.ma, ir := t.word t.ma, xctCount := s.xctCount + 1 } = .refused r))) ∧
  (∀ (w c : Bool) (sub : BitVec 5) (s : State), s.straps.opt1d = true → restricted s = false → FirstIssue w s →
    exec (.rnm w c sub) s = .refused .renameTable ∧
    (s.straps.sbs16 = false → exec (.erm w c sub) s = .refused .restrictModeWithoutSbs16))

/-- While the machine is restricted, no instruction changes a word of a denied bank
(`20_memory.md` section 2, `60_exceptions.md` section 7). -/
def Obligations.RestrictedWritesNoDeniedWord : Prop :=
  ∀ (i : Instr) (s t : State) (a : Addr), restricted s = true → exec i s = .next t → denied s a = true →
    t.word a = s.word a

/-- While the machine is restricted, no instruction leaves restrict mode or changes what governs it: the mask,
the active levels, the enables, the global enable, the rename table, the latches of an I/O wait; none reaches a
device; and none stops the machine but by an indirect chain or an XCT chain that is too long
(`60_exceptions.md` section 7). -/
def Obligations.RestrictedKeepsControl : Prop :=
  ∀ (i : Instr) (s t : State), restricted s = true → exec i s = .next t →
    t.rm = true ∧ t.rmask = s.rmask ∧ t.sbsAct = 0#16 ∧ t.sbsEnb = s.sbsEnb ∧ t.sbs.on = s.sbs.on ∧
    t.rname = s.rname ∧ t.ioh = s.ioh ∧ t.ios = s.ios ∧ t.cpls = s.cpls ∧
    t.answers = s.answers ∧ t.draws = s.draws ∧ t.lastCall = s.lastCall ∧
    (t.run = s.run ∨ t.run = .stopped (some .ind) ∨ t.run = .stopped (some .xct))

/-- While the machine is restricted, what an instruction does is the same whatever stands in the denied banks:
two states that differ only in words of denied banks give next states that differ only there
(`20_memory.md` section 2, `60_exceptions.md` section 7). -/
def Obligations.RestrictedReadsNoDeniedWord : Prop :=
  ∀ (i : Instr) (s t : State) (m : Memory), restricted s = true → s.mem.wf = true → m.wf = true →
    (∀ a, denied s a = false → ({ s with mem := m } : State).word a = s.word a) → exec i s = .next t →
    ∃ m', exec i { s with mem := m } = .next { t with mem := m' } ∧
      ∀ a, denied s a = false → ({ t with mem := m' } : State).word a = t.word a

/-- An instruction that stores at most one word, XCT, the character instructions and the I/O transfers left
out, leaves every word but the one at its store address as it was; with no store address, every word.
The address is the one in MA when the reference resolves; for CAL the word 0100 of the field of PC and for JDA the
address field there (`20_memory.md` section 3, `42_call_load_store.md` sections 1 and 2; the save location of CAL is
decision D37, log entry 19, PRESUMED). -/
def Obligations.StoresTouchOnlyTheirWord : Prop :=
  ∀ (i : Instr) (s t : State) (a : Addr), storesAtMostOneWord i = true → exec i s = .next t →
    storeAddress i s ≠ some a → t.word a = s.word a

/-! ### The sequence-break controller, addresses, memory -/

/-- `sbs_eval()` returns level + 1 for the least requested level if no level at or below it in number is active,
and 0 exactly when every requested level has an active one at or below it (`60_exceptions.md` R174). -/
def Obligations.SbsEvalIsLeastAdmissible : Prop :=
  ∀ (req act : BitVec 16),
    (∀ l, l < 16 → (sbsEval req act).toNat = l + 1 →
      req.getLsbD l = true ∧ (∀ k, k < l → req.getLsbD k = false) ∧ ∀ k, k ≤ l → act.getLsbD k = false) ∧
    ((sbsEval req act).toNat = 0 ↔ ∀ l, l < 16 → req.getLsbD l = true → ∃ k, k ≤ l ∧ act.getLsbD k = true) ∧
    (sbsEval req act).toNat ≤ 16

/-- `INCR_ADDR` and `DECR_ADDR` move the low 12 bits one up and one down, modulo 4096, keep the field bits, and undo
each other (`00_scope.md` section 6, `10_state.md` section 2). -/
def Obligations.IncrDecrInsideTheField : Prop :=
  ∀ (a : Addr), incrAddr (decrAddr a) = a ∧ decrAddr (incrAddr a) = a ∧
    incrAddr a &&& epcmask = a &&& epcmask ∧ decrAddr a &&& epcmask = a &&& epcmask ∧
    (incrAddr a).toNat % 4096 = (a.toNat + 1) % 4096 ∧ (decrAddr a).toNat % 4096 = (a.toNat + 4095) % 4096

/-- A denied bank is a set bit of the mask: bank b is governed by bit 17 - b (`20_memory.md` section 2,
decision D30). -/
def Obligations.DeniedIsAMaskBit : Prop :=
  ∀ (s : State) (a : Addr), denied s a = s.rmask.getLsbD (17 - bankOf s.straps.bankShift a) ∧
    bankOf .at12 a = a.toNat / 4096 ∧ bankOf .at14 a = a.toNat / 16384

/-- `Read()` and `Write()`: with a violation only the trap buffer is written, with cause 0 and `MB[13:0]`, and
`RMV` raised; else the word at MA (0 at or above `MEMSIZE`) goes to MB, or MB to the word at MA
(`20_memory.md` R52, R53). -/
def Obligations.ProtectedReadAndWrite : Prop :=
  ∀ (s : State),
    (violation s s.ma = true → readWord s = .trap { s with rtb := s.mb &&& 0o37777#18 } ∧
      writeWord s = .trap { s with rtb := s.mb &&& 0o37777#18 }) ∧
    (violation s s.ma = false → readWord s = .ok { s with mb := s.word s.ma }) ∧
    (violation s s.ma = false → ∃ t, writeWord s = .ok t ∧ t = { s with mem := t.mem } ∧
      (∀ a, a ≠ s.ma → t.word a = s.word a) ∧
      (s.mem.wf = true → s.ma.toNat < s.straps.memsize → t.word s.ma = s.mb)) ∧
    (∀ a : Addr, s.straps.memsize ≤ a.toNat → s.word a = 0#18 ∧ ∀ v, s.stored a v = s.mem)

/-- A reference that resolves changes nothing but MA and MB; a direct one leaves MB too and gives the field of PC
with the address field; in extend mode an indirect one takes exactly one readable indirect word and all 16
address bits of it (`20_memory.md` section 6, decision D4). -/
def Obligations.EffectiveAddress : Prop :=
  ∀ (y : BitVec 12) (s : State),
    (∀ ind t, ea ind y s = .ok t → t = { s with ma := t.ma, mb := t.mb }) ∧
    ea false y s = .ok { s with ma := (s.pc &&& 0o170000#16) ||| y.setWidth 16 } ∧
    (s.extm = true → violation s (directAddr s.pc y) = false →
      ea true y s = .ok { s with
        mb := s.word (directAddr s.pc y)
        ma := (s.word (directAddr s.pc y)).setWidth 16 }) ∧
    (violation s (directAddr s.pc y) = true → (s.extm = false → 1 ≤ s.straps.indMax) →
      ea true y s = .trap { s with ma := directAddr s.pc y, rtb := trapRecord s .access })

/-- An indirect chain of non-extend mode. Every cell lies in the field of PC, so a chain is denied as a whole or not at
all: a denied one traps at its first cell with cause 0, and no later cell can be denied where the first is not. In a
readable one, if the cells 0 to n-1 have the indirect flag, cell n does not and n is below `ind_max`, the address in
cell n results and MB holds that cell; if `ind_max` cells all have the flag, `STOP_IND` is raised with MA at the next
cell, which is not read (`20_memory.md` sections 2 and 6, decision D4). -/
def Obligations.IndirectChain : Prop :=
  ∀ (y : BitVec 12) (s : State) (n : Nat), s.extm = false →
    (∀ k, violation s (chainCell s (directAddr s.pc y) k) = violation s (directAddr s.pc y)) ∧
    (violation s (directAddr s.pc y) = true → 1 ≤ s.straps.indMax →
      ea true y s = .trap { s with ma := directAddr s.pc y, rtb := s.mb &&& 0o37777#18 }) ∧
    (violation s (directAddr s.pc y) = false → n < s.straps.indMax →
      (∀ k, k < n → hasIndirect (s.word (chainCell s (directAddr s.pc y) k)) = true) →
      hasIndirect (s.word (chainCell s (directAddr s.pc y) n)) = false →
      ea true y s = .ok { s with
        mb := s.word (chainCell s (directAddr s.pc y) n)
        ma := chainCell s (directAddr s.pc y) (n + 1) }) ∧
    (violation s (directAddr s.pc y) = false → s.straps.indMax = n + 1 →
      (∀ k, k ≤ n → hasIndirect (s.word (chainCell s (directAddr s.pc y) k)) = true) →
      ea true y s = .stop .ind { s with
        mb := s.word (chainCell s (directAddr s.pc y) n)
        ma := chainCell s (directAddr s.pc y) (n + 1) })

/-! ### Logical instructions and XCT -/

/-- AND, IOR, XOR: AC is combined with the word at the effective address, which MB keeps; nothing else changes;
without an operand they end early with AC unchanged (`40_logical_xct.md` section 2). -/
def Obligations.LogicalResults : Prop :=
  ∀ (ind : Bool) (y : BitVec 12) (s : State),
    (∀ t, ea ind y s = .ok t → violation t t.ma = false →
      exec (.and ind y) s = .next { t with mb := t.word t.ma, ac := t.ac &&& t.word t.ma } ∧
      exec (.ior ind y) s = .next { t with mb := t.word t.ma, ac := t.ac ||| t.word t.ma } ∧
      exec (.xor ind y) s = .next { t with mb := t.word t.ma, ac := t.ac ^^^ t.word t.ma }) ∧
    EndsWithoutOperand ind y s (exec (.and ind y) s) ∧
    EndsWithoutOperand ind y s (exec (.ior ind y) s) ∧
    EndsWithoutOperand ind y s (exec (.xor ind y) s)

/-- XCT with nesting left is exec of the word at its effective address, with that word in MB and IR and the
nesting counter one higher: of a LAW or a skip word, for instance, the next state of that word. With none left it
stops before any memory access; without an operand it ends early (`40_logical_xct.md` section 3; the place of
the test is decision D23). -/
def Obligations.XctRunsTheWordItReads : Prop :=
  ∀ (ind : Bool) (y : BitVec 12) (s : State),
    (s.straps.xctMax ≤ s.xctCount → exec (.xct ind y) s = .next (s.stopWith .xct)) ∧
    (s.xctCount < s.straps.xctMax →
      EndsWithoutOperand ind y s (exec (.xct ind y) s) ∧
      ∀ t, ea ind y s = .ok t → violation t t.ma = false →
        exec (.xct ind y) s = exec (decode s.straps.mdv (t.word t.ma))
          { t with mb := t.word t.ma, ir := t.word t.ma, xctCount := s.xctCount + 1 } ∧
        (∀ n, decode s.straps.mdv (t.word t.ma) = .law false n →
          exec (.xct ind y) s = .next
            { t with mb := t.word t.ma, ir := t.word t.ma, xctCount := s.xctCount + 1, ac := n.setWidth 18 }))

/-! ### Character instructions -/

/-- The pointer of a character instruction. Its cell is, in extend mode, the one at the direct address; otherwise the
walk over cells with the indirect flag, all in the field of PC, ends at the first without, and stops with `STOP_IND`
after `ind_max` cells that have it; a denied walk traps at its first cell with cause 0. Without automatic increment the
pointer gives the address; with it, the incremented pointer is written back to its cell first and gives the address; a
page cross of a restricted program traps before the increment (`41_char_pdp1d.md` section 1; the format is open,
decision D40, log entry 8). -/
def Obligations.CharacterPointer : Prop :=
  ∀ (y : BitVec 12) (s : State) (n : Nat) (c : Addr), c = chainCell s (directAddr s.pc y) n →
    (violation s (directAddr s.pc y) = true → (s.extm = false → 1 ≤ s.straps.indMax) → ∀ auto,
      eaCh auto y s = .trap { s with ma := directAddr s.pc y, rtb := s.mb &&& 0o37777#18 }) ∧
    (violation s (directAddr s.pc y) = false → s.extm = false → s.straps.indMax = n + 1 →
      (∀ k, k ≤ n → hasIndirect (s.word (chainCell s (directAddr s.pc y) k)) = true) → ∀ auto,
      eaCh auto y s = .stop .ind { s with mb := s.word c, ma := chainCell s (directAddr s.pc y) (n + 1) }) ∧
    (violation s (directAddr s.pc y) = false →
      ((s.extm = true ∧ n = 0) ∨ (s.extm = false ∧ n < s.straps.indMax ∧ hasIndirect (s.word c) = false ∧
        ∀ k, k < n → hasIndirect (s.word (chainCell s (directAddr s.pc y) k)) = true)) →
      eaCh false y s = .ok { s with
        mb := s.word c
        ma := bpAddr s.straps.charFormat s.extm s.pc (s.word c) } ∧
      (restricted s = true → bpPagecross s.straps.charFormat (s.word c) = true →
        eaCh true y s = .trap { s with
          ma := c
          mb := s.word c
          rtb := s.straps.codeChr.setWidth 18 <<< 14 ||| (s.word c &&& 0o37777#18) }) ∧
      ((restricted s = false ∨ bpPagecross s.straps.charFormat (s.word c) = false) →
        eaCh true y s = .ok { s with
          mem := s.stored c (bpIncr s.straps.charFormat (s.word c) (s.pf.getLsbD 6))
          mb := bpIncr s.straps.charFormat (s.word c) (s.pf.getLsbD 6)
          ma := bpAddr s.straps.charFormat s.extm s.pc
            (bpIncr s.straps.charFormat (s.word c) (s.pf.getLsbD 6)) }))

/-- LCH and DCH with the PDP-1D option and the pointer resolved: LCH takes the character of the word at the
address to AC, DCH puts AC's character into that word; nothing else changes. They end early as the pointer's
resolution does, or by the trap of the word's access with the pointer already advanced
(`41_char_pdp1d.md` section 2; the placing of the character is open, decision D40, log entry 8). -/
def Obligations.CharacterResults : Prop :=
  ∀ (auto : Bool) (y : BitVec 12) (s : State), s.straps.opt1d = true →
    Forwards (eaCh auto y s) (exec (.lch auto y) s) ∧
    Forwards (eaCh auto y s) (exec (.dch auto y) s) ∧
    ∀ t, eaCh auto y s = .ok t →
      (violation t t.ma = false →
        exec (.lch auto y) s = .next { t with
          mb := t.word t.ma
          ac := chGet t.straps.charFormat (t.word t.ma) (byteShift (bpByte t.straps.charFormat t.mb)) } ∧
        exec (.dch auto y) s = .next { t with
          mb := chPut t.straps.charFormat (t.word t.ma) (byteShift (bpByte t.straps.charFormat t.mb)) t.ac
          mem := t.stored t.ma
            (chPut t.straps.charFormat (t.word t.ma) (byteShift (bpByte t.straps.charFormat t.mb)) t.ac) }) ∧
      (violation t t.ma = true →
        exec (.lch auto y) s = .next (trapRedirect (t.recordTrap .access)) ∧
        exec (.dch auto y) s = .next (trapRedirect (t.recordTrap .access)))

/-! ### Calls, loads and stores -/

/-- CAL and JDA: AC goes to the save location (0100 of the field of PC, or the address field there), AC becomes the
packed PC word, PC the word after the save location; a denied store leaves AC and PC changed and memory not
(`42_call_load_store.md` section 1; the places are decision D37). The packed PC word has OV in bit 17, extend mode
in bit 16 and PC in bits 15:0, and a dismissal's restore takes exactly those back (`10_state.md` section 4,
decision D6). -/
def Obligations.CallResults : Prop :=
  ∀ (y : BitVec 12) (s : State),
    ((epcWord s).getLsbD 17 = s.ov ∧ (epcWord s).getLsbD 16 = s.extm ∧ (epcWord s).setWidth 16 = s.pc ∧
      ∀ t : State, restorePc { t with mb := epcWord s } =
        { t with mb := epcWord s, ov := s.ov, extm := s.extm, pc := s.pc }) ∧
    (violation s (directAddr s.pc 0o100#12) = false →
      exec (.cal y) s = .next { s with
        ma := directAddr s.pc 0o100#12, mb := s.ac, mem := s.stored (directAddr s.pc 0o100#12) s.ac
        ac := epcWord s, pc := incrAddr (directAddr s.pc 0o100#12) }) ∧
    (violation s (directAddr s.pc y) = false →
      exec (.jda y) s = .next { s with
        ma := directAddr s.pc y, mb := s.ac, mem := s.stored (directAddr s.pc y) s.ac
        ac := epcWord s, pc := incrAddr (directAddr s.pc y) }) ∧
    (violation s (directAddr s.pc 0o100#12) = true →
      exec (.cal y) s = .next (trapRedirect { s with
        ma := directAddr s.pc 0o100#12, mb := s.ac, rtb := s.ac &&& 0o37777#18
        ac := epcWord s, pc := incrAddr (directAddr s.pc 0o100#12) })) ∧
    (violation s (directAddr s.pc y) = true →
      exec (.jda y) s = .next (trapRedirect { s with
        ma := directAddr s.pc y, mb := s.ac, rtb := s.ac &&& 0o37777#18
        ac := epcWord s, pc := incrAddr (directAddr s.pc y) }))

/-- LAC and LIO: the word at the effective address goes to AC, or to IO, and stays in MB; nothing else changes;
without an operand they end early (`42_call_load_store.md` section 2). -/
def Obligations.LoadResults : Prop :=
  ∀ (ind : Bool) (y : BitVec 12) (s : State),
    (∀ t, ea ind y s = .ok t → violation t t.ma = false →
      exec (.lac ind y) s = .next { t with mb := t.word t.ma, ac := t.word t.ma } ∧
      exec (.lio ind y) s = .next { t with mb := t.word t.ma, io := t.word t.ma }) ∧
    EndsWithoutOperand ind y s (exec (.lac ind y) s) ∧
    EndsWithoutOperand ind y s (exec (.lio ind y) s)

/-- DAC, DIO, DZM: AC, IO or 0 is stored at the effective address and stays in MB; nothing else changes. A denied
store leaves memory unchanged and the trap buffer with the low 14 bits of the data
(`42_call_load_store.md` section 2). -/
def Obligations.StoreResults : Prop :=
  ∀ (ind : Bool) (y : BitVec 12) (s : State),
    Forwards (ea ind y s) (exec (.dac ind y) s) ∧
    Forwards (ea ind y s) (exec (.dio ind y) s) ∧
    Forwards (ea ind y s) (exec (.dzm ind y) s) ∧
    ∀ t, ea ind y s = .ok t →
      (violation t t.ma = false →
        exec (.dac ind y) s = .next { t with mb := t.ac, mem := t.stored t.ma t.ac } ∧
        exec (.dio ind y) s = .next { t with mb := t.io, mem := t.stored t.ma t.io } ∧
        exec (.dzm ind y) s = .next { t with mb := 0#18, mem := t.stored t.ma 0#18 }) ∧
      (violation t t.ma = true →
        exec (.dac ind y) s = .next (trapRedirect { t with mb := t.ac, rtb := t.ac &&& 0o37777#18 }) ∧
        exec (.dio ind y) s = .next (trapRedirect { t with mb := t.io, rtb := t.io &&& 0o37777#18 }) ∧
        exec (.dzm ind y) s = .next (trapRedirect { t with mb := 0#18, rtb := 0#18 }))

/-- DAP and DIP: the low part (6 or 12 bits, as the strap says), or the other bits, of the word at the effective
address are replaced by AC's; MB keeps the new word, AC is unchanged; without an operand they end early
(`42_call_load_store.md` section 2; the width is the parameter of decision D15). -/
def Obligations.PartialStoreResults : Prop :=
  ∀ (ind : Bool) (y : BitVec 12) (s : State) (low : Word),
    low = (match s.straps.dapWidth with | .six => 0o77#18 | .twelve => 0o7777#18) →
    (∀ t, ea ind y s = .ok t → violation t t.ma = false →
      exec (.dap ind y) s = .next { t with
        mb := (t.ac &&& low) ||| (t.word t.ma &&& ~~~low)
        mem := t.stored t.ma ((t.ac &&& low) ||| (t.word t.ma &&& ~~~low)) } ∧
      exec (.dip ind y) s = .next { t with
        mb := (t.ac &&& ~~~low) ||| (t.word t.ma &&& low)
        mem := t.stored t.ma ((t.ac &&& ~~~low) ||| (t.word t.ma &&& low)) }) ∧
    EndsWithoutOperand ind y s (exec (.dap ind y) s) ∧
    EndsWithoutOperand ind y s (exec (.dip ind y) s)

/-- A DAP from one AC and a DIP from another to the same word, in either order, leave the low part of the first and
the high part of the second there (`42_call_load_store.md` section 2: "reconstructs both halves independently
without cross-contamination"). -/
def Obligations.DapAndDipReconstruct : Prop :=
  ∀ (y : BitVec 12) (a b : Word) (s t u : State), s.mem.wf = true → restricted s = false →
    (directAddr s.pc y).toNat < s.straps.memsize →
    ((exec (.dap false y) { s with ac := a } = .next t ∧ exec (.dip false y) { t with ac := b } = .next u) ∨
      (exec (.dip false y) { s with ac := b } = .next t ∧ exec (.dap false y) { t with ac := a } = .next u)) →
    u.word (directAddr s.pc y) =
      (a &&& lowMask s.straps.dapWidth) ||| (b &&& ~~~(lowMask s.straps.dapWidth))

/-! ### Arithmetic and compare -/

/-- TAD with the PDP-1D option: the low 18 bits of AC + operand + link go to AC and bit 18 to the link; the other bits
of PF, OV and everything else are unchanged (`43_arith.md` section 1, decision D38). -/
def Obligations.TadResult : Prop :=
  ∀ (ind : Bool) (y : BitVec 12) (s : State), s.straps.opt1d = true →
    EndsWithoutOperand ind y s (exec (.tad ind y) s) ∧
    ∀ t, ea ind y s = .ok t → violation t t.ma = false →
      ∃ (l : Bool) (p : BitVec 8),
        exec (.tad ind y) s = .next { t with
          mb := t.word t.ma
          ac := BitVec.ofNat 18 (t.ac.toNat + (t.word t.ma).toNat + (t.pf.getLsbD 7).toNat)
          pf := p } ∧
        (l = true ↔ 2 ^ 18 ≤ t.ac.toNat + (t.word t.ma).toNat + (t.pf.getLsbD 7).toNat) ∧
        p.getLsbD 7 = l ∧ p.setWidth 7 = t.pf.setWidth 7

/-- ADD: the end-around sum, cleaned of minus zero, goes to AC; OV is set if both operands have one sign and the
sum before the cleanup the other, and never cleared; MB keeps the operand; nothing else changes
(`43_arith.md` section 2). -/
def Obligations.AddResult : Prop :=
  ∀ (ind : Bool) (y : BitVec 12) (s : State),
    EndsWithoutOperand ind y s (exec (.add ind y) s) ∧
    ∀ t, ea ind y s = .ok t → violation t t.ma = false →
      ∃ r : Word, r.toNat = (if t.ac.toNat + (t.word t.ma).toNat > 0o777777
          then (t.ac.toNat + (t.word t.ma).toNat + 1) % 2 ^ 18 else t.ac.toNat + (t.word t.ma).toNat) ∧
        exec (.add ind y) s = .next { t with
          mb := t.word t.ma
          ac := if r = 0o777777#18 then 0#18 else r
          ov := t.ov || (t.ac.getLsbD 17 == (t.word t.ma).getLsbD 17 && t.ac.getLsbD 17 != r.getLsbD 17) }

/-- ADD adds signed numbers: it never leaves minus zero; OV is called for exactly when the sum of the two values
leaves the range of the word, and when it is not called for AC stands for the sum
(`43_arith.md` sections 2 and 6, `00_scope.md` section 6). -/
def Obligations.AddAddsValues : Prop :=
  ∀ (a b : Word), addResult a b ≠ 0o777777#18 ∧
    (addSetsOv a b = true ↔ (valueOf a + valueOf b < -131071 ∨ 131071 < valueOf a + valueOf b)) ∧
    (addSetsOv a b = false → valueOf (addResult a b) = valueOf a + valueOf b)

/-- SUB: AC becomes the complement of the end-around sum of its complement and the operand, with no cleanup; OV is set
if the operands have different signs and the result the operand's, never cleared; MB keeps the operand
(`43_arith.md` section 2; the overflow is decision D33). -/
def Obligations.SubResult : Prop :=
  ∀ (ind : Bool) (y : BitVec 12) (s : State),
    EndsWithoutOperand ind y s (exec (.sub ind y) s) ∧
    ∀ t, ea ind y s = .ok t → violation t t.ma = false →
      ∃ r : Word, r.toNat = (if (~~~t.ac).toNat + (t.word t.ma).toNat > 0o777777
          then ((~~~t.ac).toNat + (t.word t.ma).toNat + 1) % 2 ^ 18 else (~~~t.ac).toNat + (t.word t.ma).toNat) ∧
        exec (.sub ind y) s = .next { t with
          mb := t.word t.ma
          ac := ~~~r
          ov := t.ov || (t.ac.getLsbD 17 != (t.word t.ma).getLsbD 17 && t.ac.getLsbD 17 == r.getLsbD 17) }

/-- SUB subtracts signed numbers: OV is called for exactly when the difference leaves the range, and when it is not AC
stands for the difference; minus zero less plus zero is minus zero (`43_arith.md` sections 2 and 6, decision D33). -/
def Obligations.SubSubtractsValues : Prop :=
  ∀ (a b : Word), subResult 0o777777#18 0#18 = 0o777777#18 ∧
    (subSetsOv a b = true ↔ (valueOf a - valueOf b < -131071 ∨ 131071 < valueOf a - valueOf b)) ∧
    (subSetsOv a b = false → valueOf (subResult a b) = valueOf a - valueOf b)

/-- IDX and ISP: the operand plus 1, with 777776 going to 0 and 777777 to 1, goes to AC and to memory; ISP then skips
if the sign is clear; OV is not touched. The write goes to the word just read, so it is never denied where the read
was not; without an operand they end early (`43_arith.md` section 3, decision D32). -/
def Obligations.IndexResults : Prop :=
  ∀ (ind : Bool) (y : BitVec 12) (s : State),
    EndsWithoutOperand ind y s (exec (.idx ind y) s) ∧
    EndsWithoutOperand ind y s (exec (.isp ind y) s) ∧
    ∀ t, ea ind y s = .ok t → violation t t.ma = false →
      ∃ r : Word, r = (if t.word t.ma = 0o777776#18 then 0#18
          else if t.word t.ma = 0o777777#18 then 1#18 else t.word t.ma + 1#18) ∧
        exec (.idx ind y) s = .next { t with mb := r, ac := r, mem := t.stored t.ma r } ∧
        exec (.isp ind y) s = .next { t with
          mb := r, ac := r, mem := t.stored t.ma r
          pc := if r.getLsbD 17 then t.pc else incrAddr t.pc }

/-- SAD skips if AC and the operand differ, SAS if they are the same, as patterns; MB keeps the operand; nothing else
changes (`43_arith.md` section 4). -/
def Obligations.CompareResults : Prop :=
  ∀ (ind : Bool) (y : BitVec 12) (s : State),
    EndsWithoutOperand ind y s (exec (.sad ind y) s) ∧
    EndsWithoutOperand ind y s (exec (.sas ind y) s) ∧
    ∀ t, ea ind y s = .ok t → violation t t.ma = false →
      exec (.sad ind y) s = .next { t with
        mb := t.word t.ma, pc := if t.ac = t.word t.ma then t.pc else incrAddr t.pc } ∧
      exec (.sas ind y) s = .next { t with
        mb := t.word t.ma, pc := if t.ac = t.word t.ma then incrAddr t.pc else t.pc }

/-- MUL: AC and IO become the product's two halves; nothing else but MB changes. The product is the exact one: the
magnitudes' product stands in `AC[16:0]` and `IO[17:1]` with `IO[0]` 0, both registers complemented for a negative
non-zero product (`43_arith.md` sections 5 and 6, decision D19). -/
def Obligations.MulIsExactProduct : Prop :=
  ∀ (ind : Bool) (y : BitVec 12) (s : State),
    EndsWithoutOperand ind y s (exec (.mul ind y) s) ∧
    ∀ t, ea ind y s = .ok t → violation t t.ma = false →
      ∃ hi lo : Word,
        hi.toNat * 2 ^ 18 + lo.toNat = 2 * ((absOf t.ac).toNat * (absOf (t.word t.ma)).toNat) ∧
        exec (.mul ind y) s = .next
          (if signOf t.ac ≠ signOf (t.word t.ma) ∧ ¬(hi = 0#18 ∧ lo = 0#18)
            then { t with mb := t.word t.ma, ac := ~~~hi, io := ~~~lo }
            else { t with mb := t.word t.ma, ac := hi, io := lo })

/-- DIV: where `|AC| >= |divisor|`, nothing but MB changes and nothing is skipped; else the quotient goes to AC, the
remainder to IO, and the next instruction is skipped. Quotient and remainder are those of the magnitudes: the
remainder is below the divisor, the quotient's sign is the exclusive or of the signs, the remainder's the
dividend's, and zero results are plus zero (`43_arith.md` sections 5 and 6, decision D19). -/
def Obligations.DivIsDivision : Prop :=
  ∀ (ind : Bool) (y : BitVec 12) (s : State),
    EndsWithoutOperand ind y s (exec (.div ind y) s) ∧
    ∀ t, ea ind y s = .ok t → violation t t.ma = false →
      (absOf (t.word t.ma) ≤ absOf t.ac → exec (.div ind y) s = .next { t with mb := t.word t.ma }) ∧
      (absOf t.ac < absOf (t.word t.ma) →
        ∃ q r : Word,
          exec (.div ind y) s = .next { t with mb := t.word t.ma, ac := q, io := r, pc := incrAddr t.pc } ∧
          (absOf q).toNat * (absOf (t.word t.ma)).toNat + (absOf r).toNat =
            (absOf t.ac).toNat * 2 ^ 17 + (if signOf t.ac then ~~~t.io else t.io).toNat / 2 ∧
          absOf r < absOf (t.word t.ma) ∧
          (q ≠ 0#18 → signOf q = (signOf t.ac != signOf (t.word t.ma)) ∧ q ≠ 0o777777#18) ∧
          (r ≠ 0#18 → signOf r = signOf t.ac ∧ r ≠ 0o777777#18))

/-- MUS and DIS: one step on the pair AC, IO; OV and PC are not touched and MB keeps the operand. MUS adds the operand
to AC, as ADD does, if `IO[0]` is 1, then shifts the pair right; DIS shifts the pair left with the complement of
AC's sign coming in, then subtracts or adds (`43_arith.md` section 5, decision D19). -/
def Obligations.StepResults : Prop :=
  ∀ (ind : Bool) (y : BitVec 12) (s : State),
    EndsWithoutOperand ind y s (exec (.mus ind y) s) ∧
    EndsWithoutOperand ind y s (exec (.dis ind y) s) ∧
    ∀ t, ea ind y s = .ok t → violation t t.ma = false →
      (∀ a : Word, a = (if t.io.getLsbD 0 then addResult t.ac (t.word t.ma) else t.ac) →
        exec (.mus ind y) s = .next { t with
          mb := t.word t.ma, ac := a >>> 1, io := (t.io >>> 1) ||| (a <<< 17) }) ∧
      (∀ a i d : Word, a = ((t.ac <<< 1) ||| (t.io >>> 17)) →
        i = ((t.io <<< 1) ||| (if signOf t.ac then 0#18 else 1#18)) →
        d.toNat = (if signOf t.ac
          then (if a.toNat + (t.word t.ma).toNat + 1 > 0o777777 then (a.toNat + (t.word t.ma).toNat + 2) % 2 ^ 18
            else a.toNat + (t.word t.ma).toNat + 1)
          else (if a.toNat + (~~~(t.word t.ma)).toNat > 0o777777 then (a.toNat + (~~~(t.word t.ma)).toNat + 1) % 2 ^ 18
            else a.toNat + (~~~(t.word t.ma)).toNat)) →
        exec (.dis ind y) s = .next { t with
          mb := t.word t.ma, ac := if d = 0o777777#18 then 0#18 else d, io := i })

/-! ### Control transfer and LAW -/

/-- JSP: AC becomes the packed PC word and PC the effective address; nothing else changes; where the address does not
resolve AC and PC are as they were (`44_jump_law.md` section 2). -/
def Obligations.JspResult : Prop :=
  ∀ (ind : Bool) (y : BitVec 12) (s : State),
    Forwards (ea ind y s) (exec (.jsp ind y) s) ∧
    ∀ t, ea ind y s = .ok t → exec (.jsp ind y) s = .next { t with ac := epcWord s, pc := t.ma }

/-- JMP, and the dismissal form where it is no dismissal: PC becomes the effective address, OV and extend mode are not
loaded, no level is cleared (`44_jump_law.md` section 1, decision D36). -/
def Obligations.JumpResults : Prop :=
  ∀ (s : State),
    (∀ ind y, Forwards (ea ind y s) (exec (.jmp ind y) s) ∧
      ∀ t, ea ind y s = .ok t → exec (.jmp ind y) s = .next { t with pc := t.ma }) ∧
    (∀ l, (s.sbs.on = false ∨ s.pc &&& 0o170000#16 ≠ 0#16 ∨ (s.straps.sbs16 = false ∧ l ≠ 0#4)) →
      exec (.jmpDismiss l) s = exec (.jmp true (dismissalY l)) s)

/-- A dismissal in the 16-channel configuration clears the active bit of the level its address names and evaluates; in
the 1-channel configuration it clears IP. OV, extend mode and all of PC come from the word at 4L+1, read once, if the
read is allowed after that; else it traps with the level cleared (`44_jump_law.md` section 1, decisions D36 and D42). -/
def Obligations.DismissalResults : Prop :=
  ∀ (l : BitVec 4) (s t : State) (a : Addr), s.sbs.on = true → s.pc &&& 0o170000#16 = 0#16 →
    a = BitVec.ofNat 16 (4 * l.toNat + 1) →
    ((s.straps.sbs16 = true ∧
        t = { s with sbsAct := clearLevel s.sbsAct l, sbsLvl := sbsEval s.sbsReq (clearLevel s.sbsAct l) }) ∨
      (s.straps.sbs16 = false ∧ l = 0#4 ∧ t = { s with sbs := { s.sbs with ip := false } })) →
    (violation t a = false → exec (.jmpDismiss l) s = .next { t with
      ma := a, mb := t.word a, ov := (t.word a).getLsbD 17, extm := (t.word a).getLsbD 16
      pc := (t.word a).setWidth 16 }) ∧
    (violation t a = true →
      exec (.jmpDismiss l) s = .next (trapRedirect { t with ma := a, rtb := trapRecord t .access }))

/-- A break taken in the 16-channel configuration and dismissed at once gives back PC, OV, extend mode and the active
levels, if the level was not active before and the block is in memory (`60_exceptions.md` section 4: "resumes there"). -/
def Obligations.DismissalUndoesEntry : Prop :=
  ∀ (s t u : State) (l : BitVec 4), s.straps.sbs16 = true → s.mem.wf = true → s.sbs.on = true →
    s.rm = false → l = pendingLevel s → s.sbsAct.getLsbD l.toNat = false →
    interruptEntry s = .ok t → exec (.jmpDismiss l) t = .next u →
    u.pc = s.pc ∧ u.ov = s.ov ∧ u.extm = s.extm ∧ u.sbsAct = s.sbsAct ∧ u.ac = s.ac ∧ u.io = s.io ∧
    u.word (statusBlock l) = s.ac ∧ u.word (statusBlock l + 2#16) = s.io

/-- LAW: AC becomes the literal, zero-extended, or all 18 bits of its complement; nothing else changes
(`44_jump_law.md` section 3, decision D31). -/
def Obligations.LawResult : Prop :=
  ∀ (n : BitVec 12) (s : State),
    exec (.law false n) s = .next { s with ac := n.setWidth 18 } ∧
    exec (.law true n) s = .next { s with ac := 0o777777#18 - n.setWidth 18 }

/-! ### Skip, shift, operate -/

/-- The skip group: it skips if one of the selected conditions holds, or, inverted, if none does; OV is cleared if SZO is
selected, whatever the outcome; nothing else changes (`45_skip.md`; the bit positions are decision D29). -/
def Obligations.SkipGroup : Prop :=
  ∀ (b : SkipBits) (s : State) (c : Bool),
    (c = true ↔
      ((s.straps.opt1d = true ∧ b.sni = true ∧ s.io ≠ 0#18) ∨ (b.spi = true ∧ s.io.getLsbD 17 = false) ∨
       (b.szo = true ∧ s.ov = false) ∨ (b.sma = true ∧ s.ac.getLsbD 17 = true) ∨
       (b.spa = true ∧ s.ac.getLsbD 17 = false) ∨ (b.sza = true ∧ s.ac = 0#18) ∨
       (b.sw ≠ 0#3 ∧ ∀ k, k < 6 → (b.sw = 7#3 ∨ b.sw.toNat = 6 - k) → s.ss.getLsbD k = false) ∨
       (b.fl ≠ 0#3 ∧ ∀ k, k < 6 → (b.fl = 7#3 ∨ b.fl.toNat = 6 - k) → s.pf.getLsbD k = false))) →
    exec (.skp b) s = .next { s with
      pc := if c = b.inv then s.pc else incrAddr s.pc
      ov := if b.szo then false else s.ov }

/-- The rotates by n, the number of one bits of the count code: of AC, of IO and of the pair, left and right, each bit
goes n places round; nothing else changes (`46_shift.md` section 2, decision D14). -/
def Obligations.RotateResults : Prop :=
  ∀ (code : BitVec 9) (s : State) (n : Nat), n = (List.range 9).countP (fun k => code.getLsbD k) →
    ∃ ral ril rar rir la li ra ri : Word,
      exec (.ral code) s = .next { s with ac := ral } ∧ exec (.ril code) s = .next { s with io := ril } ∧
      exec (.rar code) s = .next { s with ac := rar } ∧ exec (.rir code) s = .next { s with io := rir } ∧
      exec (.rcl code) s = .next { s with ac := la, io := li } ∧
      exec (.rcr code) s = .next { s with ac := ra, io := ri } ∧
      (∀ k, k < 18 → ral.getLsbD ((k + n) % 18) = s.ac.getLsbD k ∧ ril.getLsbD ((k + n) % 18) = s.io.getLsbD k ∧
        rar.getLsbD k = s.ac.getLsbD ((k + n) % 18) ∧ rir.getLsbD k = s.io.getLsbD ((k + n) % 18)) ∧
      (∀ k, k < 36 → (la ++ li).getLsbD ((k + n) % 36) = (s.ac ++ s.io).getLsbD k ∧
        (ra ++ ri).getLsbD k = (s.ac ++ s.io).getLsbD ((k + n) % 36))

/-- The arithmetic shifts of AC, of IO and of the pair by n: the sign stays, the magnitude bits move n places, and the
places left empty take copies of the sign; nothing else changes, and OV in particular not
(`46_shift.md` sections 1 and 3, decision D14). -/
def Obligations.ArithmeticShiftResults : Prop :=
  ∀ (code : BitVec 9) (s : State) (n : Nat), n = (List.range 9).countP (fun k => code.getLsbD k) →
    ∃ sal sil sar sir la li ra ri : Word,
      exec (.sal code) s = .next { s with ac := sal } ∧ exec (.sil code) s = .next { s with io := sil } ∧
      exec (.sar code) s = .next { s with ac := sar } ∧ exec (.sir code) s = .next { s with io := sir } ∧
      exec (.scl code) s = .next { s with ac := la, io := li } ∧
      exec (.scr code) s = .next { s with ac := ra, io := ri } ∧
      sal.getLsbD 17 = s.ac.getLsbD 17 ∧ sil.getLsbD 17 = s.io.getLsbD 17 ∧ la.getLsbD 17 = s.ac.getLsbD 17 ∧
      (∀ k, k < 17 → sal.getLsbD k = (if k < n then s.ac.getLsbD 17 else s.ac.getLsbD (k - n)) ∧
        sil.getLsbD k = (if k < n then s.io.getLsbD 17 else s.io.getLsbD (k - n))) ∧
      (∀ k, k < 18 → sar.getLsbD k = (if k + n < 18 then s.ac.getLsbD (k + n) else s.ac.getLsbD 17) ∧
        sir.getLsbD k = (if k + n < 18 then s.io.getLsbD (k + n) else s.io.getLsbD 17)) ∧
      (∀ k, k < 35 → (la ++ li).getLsbD k = (if k < n then s.ac.getLsbD 17 else (s.ac ++ s.io).getLsbD (k - n))) ∧
      (∀ k, k < 36 → (ra ++ ri).getLsbD k =
        (if k + n < 36 then (s.ac ++ s.io).getLsbD (k + n) else s.ac.getLsbD 17))

/-- Operate without the halt: the micro-operations in their order: CLI, CLA, LAT, LAP, CMA, then with the PDP-1D option
the exchange, then the flags; nothing else changes (`47_operate.md` section 1, decision D34). -/
def Obligations.OperateResult : Prop :=
  ∀ (b : OprBits) (s : State) (i0 a1 a2 a3 a4 : Word) (p : BitVec 8), b.hlt = false →
    i0 = (if b.cli then 0#18 else s.io) → a1 = (if b.cla then 0#18 else s.ac) →
    a2 = (if b.lat then a1 ||| s.tw else a1) → a3 = (if b.lap then a2 ||| epcWord s else a2) →
    a4 = (if b.cma then ~~~a3 else a3) →
    (∀ k, p.getLsbD k = (if k < 6 ∧ b.fl ≠ 0#3 ∧ (b.fl = 7#3 ∨ b.fl.toNat = 6 - k) then b.set else s.pf.getLsbD k)) →
    exec (.opr b) s = .next { s with
      ac := if s.straps.opt1d = true ∧ b.lai = true then i0 else a4
      io := if s.straps.opt1d = true ∧ b.lia = true then a4 else i0
      pf := p }

/-- Operate with the halt: every other micro-operation of the word is done, then a restricted program traps with the
halt cause and `MB[13:0]` and the machine keeps running, and any other stops with `STOP_HALT`
(`47_operate.md` section 1, decision D34). -/
def Obligations.HaltResult : Prop :=
  ∀ (b : OprBits) (s t : State), b.hlt = true → exec (.opr { b with hlt := false }) s = .next t →
    (restricted s = true → exec (.opr b) s = .next (trapRedirect { t with
      rtb := s.straps.codeHlt.setWidth 18 <<< 14 ||| (s.mb &&& 0o37777#18) })) ∧
    (restricted s = false → exec (.opr b) s = .next { t with run := .stopped (some .halt) })

/-- Special operate with the PDP-1D option: with no bit it changes nothing; else AC, IO, PF and a skip are what the open
function of the spec says, and nothing else changes (`47_operate.md` section 2, decision D39, log entry 7). -/
def Obligations.SpecialOperateResult : Prop :=
  ∀ (bits : BitVec 13) (s : State), s.straps.opt1d = true →
    exec (.spc 0#13) s = .next s ∧
    ∀ r, r = Config.spcExec bits s.ac s.io s.pf s.pc → bits ≠ 0#13 →
      exec (.spc bits) s = .next { s with
        ac := r.ac, io := r.io, pf := r.pf, pc := if r.skip then incrAddr s.pc else s.pc }

/-- Undefined instructions: restricted, a trap with the illegal-instruction cause and `MB[13:0]`; else a stop with
`stop_inst`, and nothing without; in every case no register but, for the trap, the trap buffer and the masks, and no
word of memory changes (`60_exceptions.md` section 5; which words are undefined is decision D17; that level 14 is
requested past its enable and the masks evaluated is decision D9, log entry 27, PRESUMED). -/
def Obligations.UndefinedInstructions : Prop :=
  ∀ (i : Instr) (s : State), undefinedUnder s.straps i = true →
    (restricted s = true → exec i s = .next { s with
      rtb := s.straps.codeIll.setWidth 18 <<< 14 ||| (s.mb &&& 0o37777#18)
      sbsReq := setLevel s.sbsReq 14#4
      sbsLvl := sbsEval (setLevel s.sbsReq 14#4) s.sbsAct }) ∧
    (restricted s = false → s.straps.stopInst = true →
      exec i s = .next { s with run := .stopped (some .rsrv) }) ∧
    (restricted s = false → s.straps.stopInst = false → exec i s = .next s)

/-! ### I/O transfers -/

/-- Every I/O transfer of a restricted program traps with the IOT cause and `MB[13:0]`, before anything else
(`48_iot.md` section 2; that level 14 is requested past its enable and the masks evaluated is `60_exceptions.md`
section 5 with decision D9, log entry 27, PRESUMED). -/
def Obligations.RestrictedIotTraps : Prop :=
  ∀ (i : Instr) (s : State), (waitBit i).isSome = true → restricted s = true →
    exec i s = .next { s with
      rtb := s.straps.codeIot.setWidth 18 <<< 14 ||| (s.mb &&& 0o37777#18)
      sbsReq := setLevel s.sbsReq 14#4
      sbsLvl := sbsEval (setLevel s.sbsReq 14#4) s.sbsAct }

/-- A re-issue of an I/O transfer with the wait bit, the latch set: if the synchronizer is set the latch is cleared and
nothing else done; else PC is backed up again, and the machine stops if no device owes a completion. The device is not
called (`48_iot.md` section 2). -/
def Obligations.IotWaits : Prop :=
  ∀ (i : Instr) (s : State), waitBit i = some true → restricted s = false → s.ioh = true →
    (s.ios = true → exec i s = .next { s with ioh := false }) ∧
    (s.ios = false → s.cpls ≠ [] → exec i s = .next { s with pc := decrAddr s.pc }) ∧
    (s.ios = false → s.cpls = [] →
      exec i s = .next { s with pc := decrAddr s.pc, run := .stopped (some .wait) })

/-- A first issue of an IOT to an external device: the device's answer is taken. Where a device is present the wait bit
sets the latch and backs PC up; the device is called with the instruction word, its code and IO; what it does at the
other ports happens, IO becomes its data, its skip is done and the masks are evaluated; then its stop, if any. An absent
device makes the word an undefined instruction, with PC at the next instruction and no register changed, whatever the
wait bit (`48_iot.md` sections 1 and 2, `60_exceptions.md` section 5: "In every case PC already addresses the next
instruction", decisions D43 and D46, log entries 6, 16 and 17). -/
def Obligations.ExternalIot : Prop :=
  ∀ (w c : Bool) (sub : BitVec 5) (dev : BitVec 6) (s t u v : State) (a : DevAnswer),
    restricted s = false → FirstIssue w s → a = nextAnswer s → t = takeAnswer s →
    u = portActions a.ports { issued w t with
      lastCall := some ⟨s.ir, dev, s.io⟩
      ios := if a.starts = true ∧ w ≠ c then false else s.ios
      cpls := if a.starts = true ∧ w ≠ c then oweCompletion dev s.cpls else s.cpls } →
    v = { u with
      io := a.ioIn
      pc := if a.skip then incrAddr u.pc else u.pc
      sbsLvl := sbsEval u.sbsReq u.sbsAct } →
    (a.present = true → a.stop = none → exec (.iot w c sub dev) s = .next v) ∧
    (a.present = true → ∀ k, a.stop = some k →
      exec (.iot w c sub dev) s = .next { v with run := .stopped (some (.external k)) }) ∧
    (a.present = false → s.straps.stopInst = true →
      exec (.iot w c sub dev) s = .next { t with run := .stopped (some .rsrv) }) ∧
    (a.present = false → s.straps.stopInst = false → exec (.iot w c sub dev) s = .next t) ∧
    t = { s with answers := s.answers.tail, draws := if s.answers = [] then s.draws + 1 else s.draws }

/-- A first issue of a channel pulse in the 16-channel configuration: DSC and ASC write the enable of the channel in the
low four bits of the sub-opcode, CAC clears all enables, ISB posts a request on the channel whatever its enable; then
the masks are evaluated; nothing else changes (`48_iot.md` section 3, decision D26). -/
def Obligations.ChannelPulses : Prop :=
  ∀ (w c : Bool) (sub : BitVec 5) (s t : State) (l : BitVec 4), s.straps.sbs16 = true → restricted s = false →
    FirstIssue w s → t = issued w s → l.toNat = sub.toNat % 16 →
    exec (.dsc w c sub) s = .next { t with sbsEnb := clearLevel s.sbsEnb l, sbsLvl := sbsEval s.sbsReq s.sbsAct } ∧
    exec (.asc w c sub) s = .next { t with sbsEnb := setLevel s.sbsEnb l, sbsLvl := sbsEval s.sbsReq s.sbsAct } ∧
    exec (.cac w c sub) s = .next { t with sbsEnb := 0#16, sbsLvl := sbsEval s.sbsReq s.sbsAct } ∧
    exec (.isb w c sub) s = .next { t with
      sbsReq := setLevel s.sbsReq l, sbsLvl := sbsEval (setLevel s.sbsReq l) s.sbsAct }

/-- A first issue of a pulse that writes a mode, with the option it needs: LSM and ESM write the global enable, CBS
clears RQ and IP, LEM and EEM write extend mode, LRM leaves restrict mode, ERM enters it with the mask from IO, RSM sets
the rename table to identity, RTB copies the trap buffer to IO, RNG_CLR and RNG_SET write the ring-mode bit; then the
masks are evaluated; nothing else changes (`48_iot.md` section 3, decisions D20 and D26). -/
def Obligations.ModePulses : Prop :=
  ∀ (w c : Bool) (sub : BitVec 5) (s t : State), restricted s = false → FirstIssue w s →
    t = { issued w s with sbsLvl := sbsEval s.sbsReq s.sbsAct } →
    exec (.lsm w c sub) s = .next { t with sbs := { s.sbs with on := false } } ∧
    exec (.esm w c sub) s = .next { t with sbs := { s.sbs with on := true } } ∧
    exec (.cbs w c sub) s = .next { t with sbs := { s.sbs with rq := false, ip := false } } ∧
    exec (.lem w sub) s = .next { t with extm := false } ∧
    exec (.eem w sub) s = .next { t with extm := true } ∧
    (s.straps.opt1d = true →
      exec (.lrm w c sub) s = .next { t with rm := false } ∧
      exec (.rsm w c sub) s = .next { t with rname := .identity } ∧
      exec (.rtb w c sub) s = .next { t with io := s.rtb } ∧
      exec (.rngClr w c sub) s = .next { t with pf := s.pf &&& 0o277#8 } ∧
      exec (.rngSet w c sub) s = .next { t with pf := s.pf ||| 0o100#8 } ∧
      (s.straps.sbs16 = true → exec (.erm w c sub) s = .next { t with rm := true, rmask := s.io }))

/-- Without the PDP-1D option the pulses 010, 011, 064 to 067 are calls of an external device, and so complete as those do:
with a present device that answers IO unchanged, asks nothing more and starts nothing, PC and the latch are as the wait
protocol leaves them. Without its option a channel pulse or RTB is an undefined instruction, with PC at the next
instruction and no register changed, whatever the wait bit (`48_iot.md` sections 1 and 3, decision D26;
`60_exceptions.md` section 5: "In every case PC already addresses the next instruction", log entry 16). -/
def Obligations.PulsesWithoutTheirOption : Prop :=
  ∀ (w c : Bool) (sub : BitVec 5) (s : State), restricted s = false → FirstIssue w s →
    (s.straps.opt1d = false →
      exec (.rngClr w c sub) s = exec (.iot w c sub 0o10#6) s ∧ exec (.rngSet w c sub) s = exec (.iot w c sub 0o11#6) s ∧
      exec (.lrm w c sub) s = exec (.iot w c sub 0o64#6) s ∧ exec (.erm w c sub) s = exec (.iot w c sub 0o65#6) s ∧
      exec (.rnm w c sub) s = exec (.iot w c sub 0o66#6) s ∧ exec (.rsm w c sub) s = exec (.iot w c sub 0o67#6) s ∧
      (∀ as, s.answers = ⟨true, s.io, false, none, false, []⟩ :: as →
        exec (.rnm w c sub) s = .next { issued w s with
          answers := as, lastCall := some ⟨s.ir, 0o66#6, s.io⟩, sbsLvl := sbsEval s.sbsReq s.sbsAct }) ∧
      exec (.rtb w c sub) s = .next (if s.straps.stopInst then s.stopWith .rsrv else s)) ∧
    (s.straps.sbs16 = false →
      exec (.dsc w c sub) s = .next (if s.straps.stopInst then s.stopWith .rsrv else s) ∧
      exec (.asc w c sub) s = .next (if s.straps.stopInst then s.stopWith .rsrv else s) ∧
      exec (.isb w c sub) s = .next (if s.straps.stopInst then s.stopWith .rsrv else s) ∧
      exec (.cac w c sub) s = .next (if s.straps.stopInst then s.stopWith .rsrv else s))
end

