-- ==== Sys2Proof/Laws/Encoding.lean ====
section
/-! SUPPORT. The bits of an encoded word, and the fields read back from it. -/

namespace Sys2Proof

/-- A bit of a placed field. -/
theorem placed_getLsbD (lo n : Nat) (v : BitVec n) (i : Nat) :
    (placed lo v).getLsbD i = (decide (i < 18) && !decide (i < lo) && v.getLsbD (i - lo)) := by
  simp only [placed, BitVec.getLsbD_shiftLeft, BitVec.getLsbD_setWidth]
  by_cases h : i < 18
  · have : i - lo < 18 := by omega
    simp [h, this]
  · simp [h]

/-- A bit of a placed flag. -/
theorem placedBit_getLsbD (lo : Nat) (b : Bool) (i : Nat) :
    (placedBit lo b).getLsbD i = (decide (i < 18) && decide (i = lo) && b) := by
  rw [placedBit, placed_getLsbD, BitVec.getLsbD_ofBool]
  by_cases h : i < lo
  · simp [h]; omega
  · by_cases h' : i = lo
    · simp [h']
    · have : ¬(i - lo = 0) := by omega
      simp [h', this]

/-- A bit of a field read from a word. -/
theorem bitField_getLsbD (w : Word) (lo n i : Nat) :
    (bitField w lo n).getLsbD i = (decide (i < n) && w.getLsbD (lo + i)) := by
  simp only [bitField, BitVec.getLsbD_extractLsb']

/-- A field of `n` bits is the bits of a word if they agree one by one. -/
theorem bitField_eq {w : Word} {lo n : Nat} {v : BitVec n} (h : ∀ i, i < n → w.getLsbD (lo + i) = v.getLsbD i) :
    bitField w lo n = v := by
  apply BitVec.eq_of_getLsbD_eq
  intro i hi
  rw [bitField_getLsbD, h i hi]
  simp [hi]

/-! ### The memory-reference format -/

theorem wordMem_getLsbD (op : BitVec 5) (ind : Bool) (y : BitVec 12) (i : Nat) :
    (wordMem op ind y).getLsbD i = (decide (i < 18) &&
      ((!decide (i < 13) && op.getLsbD (i - 13)) || (decide (i = 12) && ind) || y.getLsbD i)) := by
  simp only [wordMem, BitVec.getLsbD_or, placed_getLsbD, placedBit_getLsbD]
  by_cases h : i < 18 <;> simp [h]

theorem wordMem_op (op : BitVec 5) (ind : Bool) (y : BitVec 12) : bitField (wordMem op ind y) 13 5 = op := by
  apply bitField_eq
  intro i hi
  rw [wordMem_getLsbD, BitVec.getLsbD_of_ge y (13 + i) (by omega)]
  interval_cases i <;> simp

theorem wordMem_ind (op : BitVec 5) (ind : Bool) (y : BitVec 12) : (wordMem op ind y).getLsbD 12 = ind := by
  rw [wordMem_getLsbD, BitVec.getLsbD_of_ge y 12 (by omega)]
  simp

theorem wordMem_y (op : BitVec 5) (ind : Bool) (y : BitVec 12) : bitField (wordMem op ind y) 0 12 = y := by
  apply bitField_eq
  intro i hi
  rw [wordMem_getLsbD]
  interval_cases i <;> simp

/-- A word is its opcode, flag and address field. -/
theorem wordMem_fields (w : Word) : wordMem (bitField w 13 5) (w.getLsbD 12) (bitField w 0 12) = w := by
  apply BitVec.eq_of_getLsbD_eq
  intro i hi
  rw [wordMem_getLsbD, bitField_getLsbD, bitField_getLsbD]
  interval_cases i <;> simp

/-! ### The opcode-and-rest format -/

theorem wordRest_op (op : BitVec 5) (bits : BitVec 13) : bitField (wordRest op bits) 13 5 = op := by
  apply bitField_eq
  intro i hi
  simp only [wordRest, BitVec.getLsbD_or, placed_getLsbD]
  interval_cases i <;> simp [-BitVec.getLsbD_eq_getElem, BitVec.getLsbD_of_ge]

theorem wordRest_bits (op : BitVec 5) (bits : BitVec 13) : bitField (wordRest op bits) 0 13 = bits := by
  apply bitField_eq
  intro i hi
  simp only [wordRest, BitVec.getLsbD_or, placed_getLsbD]
  interval_cases i <;> simp [-BitVec.getLsbD_eq_getElem]

/-! ### The shift format -/

theorem wordShift_op (sub : BitVec 4) (code : BitVec 9) : bitField (wordShift sub code) 13 5 = 0o33#5 := by
  apply bitField_eq
  intro i hi
  simp only [wordShift, BitVec.getLsbD_or, placed_getLsbD]
  interval_cases i <;> simp [-BitVec.getLsbD_eq_getElem, BitVec.getLsbD_of_ge]

theorem wordShift_sub (sub : BitVec 4) (code : BitVec 9) : bitField (wordShift sub code) 9 4 = sub := by
  apply bitField_eq
  intro i hi
  simp only [wordShift, BitVec.getLsbD_or, placed_getLsbD]
  interval_cases i <;> simp [-BitVec.getLsbD_eq_getElem, BitVec.getLsbD_of_ge]

theorem wordShift_code (sub : BitVec 4) (code : BitVec 9) : bitField (wordShift sub code) 0 9 = code := by
  apply bitField_eq
  intro i hi
  simp only [wordShift, BitVec.getLsbD_or, placed_getLsbD]
  interval_cases i <;> simp [-BitVec.getLsbD_eq_getElem]

/-! ### The I/O transfer format -/

theorem wordIot_op (w c : Bool) (sub : BitVec 5) (dev : BitVec 6) : bitField (wordIot w c sub dev) 13 5 = 0o35#5 := by
  apply bitField_eq
  intro i hi
  simp only [wordIot, BitVec.getLsbD_or, placed_getLsbD, placedBit_getLsbD]
  interval_cases i <;> simp [-BitVec.getLsbD_eq_getElem, BitVec.getLsbD_of_ge]

theorem wordIot_wait (w c : Bool) (sub : BitVec 5) (dev : BitVec 6) : (wordIot w c sub dev).getLsbD 12 = w := by
  simp [wordIot, BitVec.getLsbD_or, placed_getLsbD, placedBit_getLsbD, -BitVec.getLsbD_eq_getElem, BitVec.getLsbD_of_ge]

theorem wordIot_completion (w c : Bool) (sub : BitVec 5) (dev : BitVec 6) : (wordIot w c sub dev).getLsbD 11 = c := by
  simp [wordIot, BitVec.getLsbD_or, placed_getLsbD, placedBit_getLsbD, -BitVec.getLsbD_eq_getElem, BitVec.getLsbD_of_ge]

theorem wordIot_sub (w c : Bool) (sub : BitVec 5) (dev : BitVec 6) : bitField (wordIot w c sub dev) 6 5 = sub := by
  apply bitField_eq
  intro i hi
  simp only [wordIot, BitVec.getLsbD_or, placed_getLsbD, placedBit_getLsbD]
  interval_cases i <;> simp [-BitVec.getLsbD_eq_getElem, BitVec.getLsbD_of_ge]

theorem wordIot_dev (w c : Bool) (sub : BitVec 5) (dev : BitVec 6) : bitField (wordIot w c sub dev) 0 6 = dev := by
  apply bitField_eq
  intro i hi
  simp only [wordIot, BitVec.getLsbD_or, placed_getLsbD, placedBit_getLsbD]
  interval_cases i <;> simp [-BitVec.getLsbD_eq_getElem]

/-! ### The skip and operate formats -/

theorem wordSkip_op (b : SkipBits) : bitField (wordSkip b) 13 5 = 0o32#5 := by
  apply bitField_eq
  intro i hi
  simp only [wordSkip, BitVec.getLsbD_or, placed_getLsbD, placedBit_getLsbD]
  interval_cases i <;> simp [-BitVec.getLsbD_eq_getElem, BitVec.getLsbD_of_ge]

theorem wordOpr_op (b : OprBits) : bitField (wordOpr b) 13 5 = 0o37#5 := by
  apply bitField_eq
  intro i hi
  simp only [wordOpr, BitVec.getLsbD_or, placed_getLsbD, placedBit_getLsbD]
  interval_cases i <;> simp [-BitVec.getLsbD_eq_getElem, BitVec.getLsbD_of_ge]

/-! ### Masks -/

theorem wordMem_mask (op : BitVec 5) (ind : Bool) (y : BitVec 12) : wordMem op ind y &&& 0o760000#18 = placed 13 op := by
  apply BitVec.eq_of_getLsbD_eq
  intro i hi
  simp only [wordMem, BitVec.getLsbD_and, BitVec.getLsbD_or, placed_getLsbD, placedBit_getLsbD]
  interval_cases i <;> simp [-BitVec.getLsbD_eq_getElem, BitVec.getLsbD_of_ge]

theorem wordMem_mask_flag (op : BitVec 5) (ind : Bool) (y : BitVec 12) :
    wordMem op ind y &&& 0o770000#18 = placed 13 op ||| placedBit 12 ind := by
  apply BitVec.eq_of_getLsbD_eq
  intro i hi
  simp only [wordMem, BitVec.getLsbD_and, BitVec.getLsbD_or, placed_getLsbD, placedBit_getLsbD]
  interval_cases i <;> simp [-BitVec.getLsbD_eq_getElem, BitVec.getLsbD_of_ge]

theorem wordRest_mask (op : BitVec 5) (bits : BitVec 13) : wordRest op bits &&& 0o760000#18 = placed 13 op := by
  apply BitVec.eq_of_getLsbD_eq
  intro i hi
  simp only [wordRest, BitVec.getLsbD_and, BitVec.getLsbD_or, placed_getLsbD]
  interval_cases i <;> simp [-BitVec.getLsbD_eq_getElem, BitVec.getLsbD_of_ge]

theorem wordShift_mask (sub : BitVec 4) (code : BitVec 9) :
    wordShift sub code &&& 0o777000#18 = placed 13 0o33#5 ||| placed 9 sub := by
  apply BitVec.eq_of_getLsbD_eq
  intro i hi
  simp only [wordShift, BitVec.getLsbD_and, BitVec.getLsbD_or, placed_getLsbD]
  interval_cases i <;> simp [-BitVec.getLsbD_eq_getElem, BitVec.getLsbD_of_ge]

theorem wordIot_mask (w c : Bool) (sub : BitVec 5) (dev : BitVec 6) :
    wordIot w c sub dev &&& 0o760077#18 = placed 13 0o35#5 ||| placed 0 dev := by
  apply BitVec.eq_of_getLsbD_eq
  intro i hi
  simp only [wordIot, BitVec.getLsbD_and, BitVec.getLsbD_or, placed_getLsbD, placedBit_getLsbD]
  interval_cases i <;> simp [-BitVec.getLsbD_eq_getElem, BitVec.getLsbD_of_ge]

theorem wordIot_mask_completion (w c : Bool) (sub : BitVec 5) (dev : BitVec 6) :
    wordIot w c sub dev &&& 0o764077#18 = placed 13 0o35#5 ||| placedBit 11 c ||| placed 0 dev := by
  apply BitVec.eq_of_getLsbD_eq
  intro i hi
  simp only [wordIot, BitVec.getLsbD_and, BitVec.getLsbD_or, placed_getLsbD, placedBit_getLsbD]
  interval_cases i <;> simp [-BitVec.getLsbD_eq_getElem, BitVec.getLsbD_of_ge]

theorem wordIot_mask_opcode (w c : Bool) (sub : BitVec 5) (dev : BitVec 6) :
    wordIot w c sub dev &&& 0o760000#18 = placed 13 0o35#5 := by
  apply BitVec.eq_of_getLsbD_eq
  intro i hi
  simp only [wordIot, BitVec.getLsbD_and, BitVec.getLsbD_or, placed_getLsbD, placedBit_getLsbD]
  interval_cases i <;> simp [-BitVec.getLsbD_eq_getElem, BitVec.getLsbD_of_ge]

theorem wordSkip_mask (b : SkipBits) : wordSkip b &&& 0o760000#18 = placed 13 0o32#5 := by
  apply BitVec.eq_of_getLsbD_eq
  intro i hi
  simp only [wordSkip, BitVec.getLsbD_and, BitVec.getLsbD_or, placed_getLsbD, placedBit_getLsbD]
  interval_cases i <;> simp [-BitVec.getLsbD_eq_getElem, BitVec.getLsbD_of_ge]

theorem wordOpr_mask (b : OprBits) : wordOpr b &&& 0o760000#18 = placed 13 0o37#5 := by
  apply BitVec.eq_of_getLsbD_eq
  intro i hi
  simp only [wordOpr, BitVec.getLsbD_and, BitVec.getLsbD_or, placed_getLsbD, placedBit_getLsbD]
  interval_cases i <;> simp [-BitVec.getLsbD_eq_getElem, BitVec.getLsbD_of_ge]

theorem dismissalY_mask (l : BitVec 4) : wordMem 0o30#5 true (dismissalY l) &&& 0o777703#18 = 0o610001#18 := by
  revert l
  decide

end Sys2Proof
end

