-- ==== Sys2Proof/Laws/State.lean ====
section
/-! SUPPORT. The fields of the state after each named update: one lemma for each field and update. -/

namespace Sys2Proof.Machine

/-! ### State.withMa -/

@[simp] theorem State.withMa_straps (s : State) (a : Addr) : (s.withMa a).straps = s.straps := rfl
@[simp] theorem State.withMa_unitSbs16 (s : State) (a : Addr) : (s.withMa a).unitSbs16 = s.unitSbs16 := rfl
@[simp] theorem State.withMa_ac (s : State) (a : Addr) : (s.withMa a).ac = s.ac := rfl
@[simp] theorem State.withMa_io (s : State) (a : Addr) : (s.withMa a).io = s.io := rfl
@[simp] theorem State.withMa_pc (s : State) (a : Addr) : (s.withMa a).pc = s.pc := rfl
@[simp] theorem State.withMa_ma (s : State) (a : Addr) : (s.withMa a).ma = a := rfl
@[simp] theorem State.withMa_mb (s : State) (a : Addr) : (s.withMa a).mb = s.mb := rfl
@[simp] theorem State.withMa_ir (s : State) (a : Addr) : (s.withMa a).ir = s.ir := rfl
@[simp] theorem State.withMa_ov (s : State) (a : Addr) : (s.withMa a).ov = s.ov := rfl
@[simp] theorem State.withMa_pf (s : State) (a : Addr) : (s.withMa a).pf = s.pf := rfl
@[simp] theorem State.withMa_extm (s : State) (a : Addr) : (s.withMa a).extm = s.extm := rfl
@[simp] theorem State.withMa_ss (s : State) (a : Addr) : (s.withMa a).ss = s.ss := rfl
@[simp] theorem State.withMa_tw (s : State) (a : Addr) : (s.withMa a).tw = s.tw := rfl
@[simp] theorem State.withMa_sbs (s : State) (a : Addr) : (s.withMa a).sbs = s.sbs := rfl
@[simp] theorem State.withMa_sbsReq (s : State) (a : Addr) : (s.withMa a).sbsReq = s.sbsReq := rfl
@[simp] theorem State.withMa_sbsEnb (s : State) (a : Addr) : (s.withMa a).sbsEnb = s.sbsEnb := rfl
@[simp] theorem State.withMa_sbsAct (s : State) (a : Addr) : (s.withMa a).sbsAct = s.sbsAct := rfl
@[simp] theorem State.withMa_sbsLvl (s : State) (a : Addr) : (s.withMa a).sbsLvl = s.sbsLvl := rfl
@[simp] theorem State.withMa_rm (s : State) (a : Addr) : (s.withMa a).rm = s.rm := rfl
@[simp] theorem State.withMa_rmask (s : State) (a : Addr) : (s.withMa a).rmask = s.rmask := rfl
@[simp] theorem State.withMa_rtb (s : State) (a : Addr) : (s.withMa a).rtb = s.rtb := rfl
@[simp] theorem State.withMa_rname (s : State) (a : Addr) : (s.withMa a).rname = s.rname := rfl
@[simp] theorem State.withMa_ioh (s : State) (a : Addr) : (s.withMa a).ioh = s.ioh := rfl
@[simp] theorem State.withMa_ios (s : State) (a : Addr) : (s.withMa a).ios = s.ios := rfl
@[simp] theorem State.withMa_cpls (s : State) (a : Addr) : (s.withMa a).cpls = s.cpls := rfl
@[simp] theorem State.withMa_xctCount (s : State) (a : Addr) : (s.withMa a).xctCount = s.xctCount := rfl
@[simp] theorem State.withMa_run (s : State) (a : Addr) : (s.withMa a).run = s.run := rfl
@[simp] theorem State.withMa_mem (s : State) (a : Addr) : (s.withMa a).mem = s.mem := rfl
@[simp] theorem State.withMa_hooks (s : State) (a : Addr) : (s.withMa a).hooks = s.hooks := rfl
@[simp] theorem State.withMa_answers (s : State) (a : Addr) : (s.withMa a).answers = s.answers := rfl
@[simp] theorem State.withMa_draws (s : State) (a : Addr) : (s.withMa a).draws = s.draws := rfl
@[simp] theorem State.withMa_console (s : State) (a : Addr) : (s.withMa a).console = s.console := rfl
@[simp] theorem State.withMa_lastCall (s : State) (a : Addr) : (s.withMa a).lastCall = s.lastCall := rfl

/-! ### State.withMb -/

@[simp] theorem State.withMb_straps (s : State) (v : Word) : (s.withMb v).straps = s.straps := rfl
@[simp] theorem State.withMb_unitSbs16 (s : State) (v : Word) : (s.withMb v).unitSbs16 = s.unitSbs16 := rfl
@[simp] theorem State.withMb_ac (s : State) (v : Word) : (s.withMb v).ac = s.ac := rfl
@[simp] theorem State.withMb_io (s : State) (v : Word) : (s.withMb v).io = s.io := rfl
@[simp] theorem State.withMb_pc (s : State) (v : Word) : (s.withMb v).pc = s.pc := rfl
@[simp] theorem State.withMb_ma (s : State) (v : Word) : (s.withMb v).ma = s.ma := rfl
@[simp] theorem State.withMb_mb (s : State) (v : Word) : (s.withMb v).mb = v := rfl
@[simp] theorem State.withMb_ir (s : State) (v : Word) : (s.withMb v).ir = s.ir := rfl
@[simp] theorem State.withMb_ov (s : State) (v : Word) : (s.withMb v).ov = s.ov := rfl
@[simp] theorem State.withMb_pf (s : State) (v : Word) : (s.withMb v).pf = s.pf := rfl
@[simp] theorem State.withMb_extm (s : State) (v : Word) : (s.withMb v).extm = s.extm := rfl
@[simp] theorem State.withMb_ss (s : State) (v : Word) : (s.withMb v).ss = s.ss := rfl
@[simp] theorem State.withMb_tw (s : State) (v : Word) : (s.withMb v).tw = s.tw := rfl
@[simp] theorem State.withMb_sbs (s : State) (v : Word) : (s.withMb v).sbs = s.sbs := rfl
@[simp] theorem State.withMb_sbsReq (s : State) (v : Word) : (s.withMb v).sbsReq = s.sbsReq := rfl
@[simp] theorem State.withMb_sbsEnb (s : State) (v : Word) : (s.withMb v).sbsEnb = s.sbsEnb := rfl
@[simp] theorem State.withMb_sbsAct (s : State) (v : Word) : (s.withMb v).sbsAct = s.sbsAct := rfl
@[simp] theorem State.withMb_sbsLvl (s : State) (v : Word) : (s.withMb v).sbsLvl = s.sbsLvl := rfl
@[simp] theorem State.withMb_rm (s : State) (v : Word) : (s.withMb v).rm = s.rm := rfl
@[simp] theorem State.withMb_rmask (s : State) (v : Word) : (s.withMb v).rmask = s.rmask := rfl
@[simp] theorem State.withMb_rtb (s : State) (v : Word) : (s.withMb v).rtb = s.rtb := rfl
@[simp] theorem State.withMb_rname (s : State) (v : Word) : (s.withMb v).rname = s.rname := rfl
@[simp] theorem State.withMb_ioh (s : State) (v : Word) : (s.withMb v).ioh = s.ioh := rfl
@[simp] theorem State.withMb_ios (s : State) (v : Word) : (s.withMb v).ios = s.ios := rfl
@[simp] theorem State.withMb_cpls (s : State) (v : Word) : (s.withMb v).cpls = s.cpls := rfl
@[simp] theorem State.withMb_xctCount (s : State) (v : Word) : (s.withMb v).xctCount = s.xctCount := rfl
@[simp] theorem State.withMb_run (s : State) (v : Word) : (s.withMb v).run = s.run := rfl
@[simp] theorem State.withMb_mem (s : State) (v : Word) : (s.withMb v).mem = s.mem := rfl
@[simp] theorem State.withMb_hooks (s : State) (v : Word) : (s.withMb v).hooks = s.hooks := rfl
@[simp] theorem State.withMb_answers (s : State) (v : Word) : (s.withMb v).answers = s.answers := rfl
@[simp] theorem State.withMb_draws (s : State) (v : Word) : (s.withMb v).draws = s.draws := rfl
@[simp] theorem State.withMb_console (s : State) (v : Word) : (s.withMb v).console = s.console := rfl
@[simp] theorem State.withMb_lastCall (s : State) (v : Word) : (s.withMb v).lastCall = s.lastCall := rfl

/-! ### State.store -/

@[simp] theorem State.store_straps (s : State) (a : Addr) (v : Word) : (s.store a v).straps = s.straps := rfl
@[simp] theorem State.store_unitSbs16 (s : State) (a : Addr) (v : Word) : (s.store a v).unitSbs16 = s.unitSbs16 := rfl
@[simp] theorem State.store_ac (s : State) (a : Addr) (v : Word) : (s.store a v).ac = s.ac := rfl
@[simp] theorem State.store_io (s : State) (a : Addr) (v : Word) : (s.store a v).io = s.io := rfl
@[simp] theorem State.store_pc (s : State) (a : Addr) (v : Word) : (s.store a v).pc = s.pc := rfl
@[simp] theorem State.store_ma (s : State) (a : Addr) (v : Word) : (s.store a v).ma = s.ma := rfl
@[simp] theorem State.store_mb (s : State) (a : Addr) (v : Word) : (s.store a v).mb = s.mb := rfl
@[simp] theorem State.store_ir (s : State) (a : Addr) (v : Word) : (s.store a v).ir = s.ir := rfl
@[simp] theorem State.store_ov (s : State) (a : Addr) (v : Word) : (s.store a v).ov = s.ov := rfl
@[simp] theorem State.store_pf (s : State) (a : Addr) (v : Word) : (s.store a v).pf = s.pf := rfl
@[simp] theorem State.store_extm (s : State) (a : Addr) (v : Word) : (s.store a v).extm = s.extm := rfl
@[simp] theorem State.store_ss (s : State) (a : Addr) (v : Word) : (s.store a v).ss = s.ss := rfl
@[simp] theorem State.store_tw (s : State) (a : Addr) (v : Word) : (s.store a v).tw = s.tw := rfl
@[simp] theorem State.store_sbs (s : State) (a : Addr) (v : Word) : (s.store a v).sbs = s.sbs := rfl
@[simp] theorem State.store_sbsReq (s : State) (a : Addr) (v : Word) : (s.store a v).sbsReq = s.sbsReq := rfl
@[simp] theorem State.store_sbsEnb (s : State) (a : Addr) (v : Word) : (s.store a v).sbsEnb = s.sbsEnb := rfl
@[simp] theorem State.store_sbsAct (s : State) (a : Addr) (v : Word) : (s.store a v).sbsAct = s.sbsAct := rfl
@[simp] theorem State.store_sbsLvl (s : State) (a : Addr) (v : Word) : (s.store a v).sbsLvl = s.sbsLvl := rfl
@[simp] theorem State.store_rm (s : State) (a : Addr) (v : Word) : (s.store a v).rm = s.rm := rfl
@[simp] theorem State.store_rmask (s : State) (a : Addr) (v : Word) : (s.store a v).rmask = s.rmask := rfl
@[simp] theorem State.store_rtb (s : State) (a : Addr) (v : Word) : (s.store a v).rtb = s.rtb := rfl
@[simp] theorem State.store_rname (s : State) (a : Addr) (v : Word) : (s.store a v).rname = s.rname := rfl
@[simp] theorem State.store_ioh (s : State) (a : Addr) (v : Word) : (s.store a v).ioh = s.ioh := rfl
@[simp] theorem State.store_ios (s : State) (a : Addr) (v : Word) : (s.store a v).ios = s.ios := rfl
@[simp] theorem State.store_cpls (s : State) (a : Addr) (v : Word) : (s.store a v).cpls = s.cpls := rfl
@[simp] theorem State.store_xctCount (s : State) (a : Addr) (v : Word) : (s.store a v).xctCount = s.xctCount := rfl
@[simp] theorem State.store_run (s : State) (a : Addr) (v : Word) : (s.store a v).run = s.run := rfl
@[simp] theorem State.store_mem (s : State) (a : Addr) (v : Word) : (s.store a v).mem = s.stored a v := rfl
@[simp] theorem State.store_hooks (s : State) (a : Addr) (v : Word) : (s.store a v).hooks = s.hooks := rfl
@[simp] theorem State.store_answers (s : State) (a : Addr) (v : Word) : (s.store a v).answers = s.answers := rfl
@[simp] theorem State.store_draws (s : State) (a : Addr) (v : Word) : (s.store a v).draws = s.draws := rfl
@[simp] theorem State.store_console (s : State) (a : Addr) (v : Word) : (s.store a v).console = s.console := rfl
@[simp] theorem State.store_lastCall (s : State) (a : Addr) (v : Word) : (s.store a v).lastCall = s.lastCall := rfl

/-! ### State.skip -/

@[simp] theorem State.skip_straps (s : State) : (s.skip).straps = s.straps := rfl
@[simp] theorem State.skip_unitSbs16 (s : State) : (s.skip).unitSbs16 = s.unitSbs16 := rfl
@[simp] theorem State.skip_ac (s : State) : (s.skip).ac = s.ac := rfl
@[simp] theorem State.skip_io (s : State) : (s.skip).io = s.io := rfl
@[simp] theorem State.skip_pc (s : State) : (s.skip).pc = incrAddr s.pc := rfl
@[simp] theorem State.skip_ma (s : State) : (s.skip).ma = s.ma := rfl
@[simp] theorem State.skip_mb (s : State) : (s.skip).mb = s.mb := rfl
@[simp] theorem State.skip_ir (s : State) : (s.skip).ir = s.ir := rfl
@[simp] theorem State.skip_ov (s : State) : (s.skip).ov = s.ov := rfl
@[simp] theorem State.skip_pf (s : State) : (s.skip).pf = s.pf := rfl
@[simp] theorem State.skip_extm (s : State) : (s.skip).extm = s.extm := rfl
@[simp] theorem State.skip_ss (s : State) : (s.skip).ss = s.ss := rfl
@[simp] theorem State.skip_tw (s : State) : (s.skip).tw = s.tw := rfl
@[simp] theorem State.skip_sbs (s : State) : (s.skip).sbs = s.sbs := rfl
@[simp] theorem State.skip_sbsReq (s : State) : (s.skip).sbsReq = s.sbsReq := rfl
@[simp] theorem State.skip_sbsEnb (s : State) : (s.skip).sbsEnb = s.sbsEnb := rfl
@[simp] theorem State.skip_sbsAct (s : State) : (s.skip).sbsAct = s.sbsAct := rfl
@[simp] theorem State.skip_sbsLvl (s : State) : (s.skip).sbsLvl = s.sbsLvl := rfl
@[simp] theorem State.skip_rm (s : State) : (s.skip).rm = s.rm := rfl
@[simp] theorem State.skip_rmask (s : State) : (s.skip).rmask = s.rmask := rfl
@[simp] theorem State.skip_rtb (s : State) : (s.skip).rtb = s.rtb := rfl
@[simp] theorem State.skip_rname (s : State) : (s.skip).rname = s.rname := rfl
@[simp] theorem State.skip_ioh (s : State) : (s.skip).ioh = s.ioh := rfl
@[simp] theorem State.skip_ios (s : State) : (s.skip).ios = s.ios := rfl
@[simp] theorem State.skip_cpls (s : State) : (s.skip).cpls = s.cpls := rfl
@[simp] theorem State.skip_xctCount (s : State) : (s.skip).xctCount = s.xctCount := rfl
@[simp] theorem State.skip_run (s : State) : (s.skip).run = s.run := rfl
@[simp] theorem State.skip_mem (s : State) : (s.skip).mem = s.mem := rfl
@[simp] theorem State.skip_hooks (s : State) : (s.skip).hooks = s.hooks := rfl
@[simp] theorem State.skip_answers (s : State) : (s.skip).answers = s.answers := rfl
@[simp] theorem State.skip_draws (s : State) : (s.skip).draws = s.draws := rfl
@[simp] theorem State.skip_console (s : State) : (s.skip).console = s.console := rfl
@[simp] theorem State.skip_lastCall (s : State) : (s.skip).lastCall = s.lastCall := rfl

/-! ### State.backUp -/

@[simp] theorem State.backUp_straps (s : State) : (s.backUp).straps = s.straps := rfl
@[simp] theorem State.backUp_unitSbs16 (s : State) : (s.backUp).unitSbs16 = s.unitSbs16 := rfl
@[simp] theorem State.backUp_ac (s : State) : (s.backUp).ac = s.ac := rfl
@[simp] theorem State.backUp_io (s : State) : (s.backUp).io = s.io := rfl
@[simp] theorem State.backUp_pc (s : State) : (s.backUp).pc = decrAddr s.pc := rfl
@[simp] theorem State.backUp_ma (s : State) : (s.backUp).ma = s.ma := rfl
@[simp] theorem State.backUp_mb (s : State) : (s.backUp).mb = s.mb := rfl
@[simp] theorem State.backUp_ir (s : State) : (s.backUp).ir = s.ir := rfl
@[simp] theorem State.backUp_ov (s : State) : (s.backUp).ov = s.ov := rfl
@[simp] theorem State.backUp_pf (s : State) : (s.backUp).pf = s.pf := rfl
@[simp] theorem State.backUp_extm (s : State) : (s.backUp).extm = s.extm := rfl
@[simp] theorem State.backUp_ss (s : State) : (s.backUp).ss = s.ss := rfl
@[simp] theorem State.backUp_tw (s : State) : (s.backUp).tw = s.tw := rfl
@[simp] theorem State.backUp_sbs (s : State) : (s.backUp).sbs = s.sbs := rfl
@[simp] theorem State.backUp_sbsReq (s : State) : (s.backUp).sbsReq = s.sbsReq := rfl
@[simp] theorem State.backUp_sbsEnb (s : State) : (s.backUp).sbsEnb = s.sbsEnb := rfl
@[simp] theorem State.backUp_sbsAct (s : State) : (s.backUp).sbsAct = s.sbsAct := rfl
@[simp] theorem State.backUp_sbsLvl (s : State) : (s.backUp).sbsLvl = s.sbsLvl := rfl
@[simp] theorem State.backUp_rm (s : State) : (s.backUp).rm = s.rm := rfl
@[simp] theorem State.backUp_rmask (s : State) : (s.backUp).rmask = s.rmask := rfl
@[simp] theorem State.backUp_rtb (s : State) : (s.backUp).rtb = s.rtb := rfl
@[simp] theorem State.backUp_rname (s : State) : (s.backUp).rname = s.rname := rfl
@[simp] theorem State.backUp_ioh (s : State) : (s.backUp).ioh = s.ioh := rfl
@[simp] theorem State.backUp_ios (s : State) : (s.backUp).ios = s.ios := rfl
@[simp] theorem State.backUp_cpls (s : State) : (s.backUp).cpls = s.cpls := rfl
@[simp] theorem State.backUp_xctCount (s : State) : (s.backUp).xctCount = s.xctCount := rfl
@[simp] theorem State.backUp_run (s : State) : (s.backUp).run = s.run := rfl
@[simp] theorem State.backUp_mem (s : State) : (s.backUp).mem = s.mem := rfl
@[simp] theorem State.backUp_hooks (s : State) : (s.backUp).hooks = s.hooks := rfl
@[simp] theorem State.backUp_answers (s : State) : (s.backUp).answers = s.answers := rfl
@[simp] theorem State.backUp_draws (s : State) : (s.backUp).draws = s.draws := rfl
@[simp] theorem State.backUp_console (s : State) : (s.backUp).console = s.console := rfl
@[simp] theorem State.backUp_lastCall (s : State) : (s.backUp).lastCall = s.lastCall := rfl

/-! ### State.stopWith -/

@[simp] theorem State.stopWith_straps (s : State) (r : StopReason) : (s.stopWith r).straps = s.straps := rfl
@[simp] theorem State.stopWith_unitSbs16 (s : State) (r : StopReason) : (s.stopWith r).unitSbs16 = s.unitSbs16 := rfl
@[simp] theorem State.stopWith_ac (s : State) (r : StopReason) : (s.stopWith r).ac = s.ac := rfl
@[simp] theorem State.stopWith_io (s : State) (r : StopReason) : (s.stopWith r).io = s.io := rfl
@[simp] theorem State.stopWith_pc (s : State) (r : StopReason) : (s.stopWith r).pc = s.pc := rfl
@[simp] theorem State.stopWith_ma (s : State) (r : StopReason) : (s.stopWith r).ma = s.ma := rfl
@[simp] theorem State.stopWith_mb (s : State) (r : StopReason) : (s.stopWith r).mb = s.mb := rfl
@[simp] theorem State.stopWith_ir (s : State) (r : StopReason) : (s.stopWith r).ir = s.ir := rfl
@[simp] theorem State.stopWith_ov (s : State) (r : StopReason) : (s.stopWith r).ov = s.ov := rfl
@[simp] theorem State.stopWith_pf (s : State) (r : StopReason) : (s.stopWith r).pf = s.pf := rfl
@[simp] theorem State.stopWith_extm (s : State) (r : StopReason) : (s.stopWith r).extm = s.extm := rfl
@[simp] theorem State.stopWith_ss (s : State) (r : StopReason) : (s.stopWith r).ss = s.ss := rfl
@[simp] theorem State.stopWith_tw (s : State) (r : StopReason) : (s.stopWith r).tw = s.tw := rfl
@[simp] theorem State.stopWith_sbs (s : State) (r : StopReason) : (s.stopWith r).sbs = s.sbs := rfl
@[simp] theorem State.stopWith_sbsReq (s : State) (r : StopReason) : (s.stopWith r).sbsReq = s.sbsReq := rfl
@[simp] theorem State.stopWith_sbsEnb (s : State) (r : StopReason) : (s.stopWith r).sbsEnb = s.sbsEnb := rfl
@[simp] theorem State.stopWith_sbsAct (s : State) (r : StopReason) : (s.stopWith r).sbsAct = s.sbsAct := rfl
@[simp] theorem State.stopWith_sbsLvl (s : State) (r : StopReason) : (s.stopWith r).sbsLvl = s.sbsLvl := rfl
@[simp] theorem State.stopWith_rm (s : State) (r : StopReason) : (s.stopWith r).rm = s.rm := rfl
@[simp] theorem State.stopWith_rmask (s : State) (r : StopReason) : (s.stopWith r).rmask = s.rmask := rfl
@[simp] theorem State.stopWith_rtb (s : State) (r : StopReason) : (s.stopWith r).rtb = s.rtb := rfl
@[simp] theorem State.stopWith_rname (s : State) (r : StopReason) : (s.stopWith r).rname = s.rname := rfl
@[simp] theorem State.stopWith_ioh (s : State) (r : StopReason) : (s.stopWith r).ioh = s.ioh := rfl
@[simp] theorem State.stopWith_ios (s : State) (r : StopReason) : (s.stopWith r).ios = s.ios := rfl
@[simp] theorem State.stopWith_cpls (s : State) (r : StopReason) : (s.stopWith r).cpls = s.cpls := rfl
@[simp] theorem State.stopWith_xctCount (s : State) (r : StopReason) : (s.stopWith r).xctCount = s.xctCount := rfl
@[simp] theorem State.stopWith_run (s : State) (r : StopReason) : (s.stopWith r).run = .stopped (some r) := rfl
@[simp] theorem State.stopWith_mem (s : State) (r : StopReason) : (s.stopWith r).mem = s.mem := rfl
@[simp] theorem State.stopWith_hooks (s : State) (r : StopReason) : (s.stopWith r).hooks = s.hooks := rfl
@[simp] theorem State.stopWith_answers (s : State) (r : StopReason) : (s.stopWith r).answers = s.answers := rfl
@[simp] theorem State.stopWith_draws (s : State) (r : StopReason) : (s.stopWith r).draws = s.draws := rfl
@[simp] theorem State.stopWith_console (s : State) (r : StopReason) : (s.stopWith r).console = s.console := rfl
@[simp] theorem State.stopWith_lastCall (s : State) (r : StopReason) : (s.stopWith r).lastCall = s.lastCall := rfl

/-! ### State.evalBreaks -/

@[simp] theorem State.evalBreaks_straps (s : State) : (s.evalBreaks).straps = s.straps := rfl
@[simp] theorem State.evalBreaks_unitSbs16 (s : State) : (s.evalBreaks).unitSbs16 = s.unitSbs16 := rfl
@[simp] theorem State.evalBreaks_ac (s : State) : (s.evalBreaks).ac = s.ac := rfl
@[simp] theorem State.evalBreaks_io (s : State) : (s.evalBreaks).io = s.io := rfl
@[simp] theorem State.evalBreaks_pc (s : State) : (s.evalBreaks).pc = s.pc := rfl
@[simp] theorem State.evalBreaks_ma (s : State) : (s.evalBreaks).ma = s.ma := rfl
@[simp] theorem State.evalBreaks_mb (s : State) : (s.evalBreaks).mb = s.mb := rfl
@[simp] theorem State.evalBreaks_ir (s : State) : (s.evalBreaks).ir = s.ir := rfl
@[simp] theorem State.evalBreaks_ov (s : State) : (s.evalBreaks).ov = s.ov := rfl
@[simp] theorem State.evalBreaks_pf (s : State) : (s.evalBreaks).pf = s.pf := rfl
@[simp] theorem State.evalBreaks_extm (s : State) : (s.evalBreaks).extm = s.extm := rfl
@[simp] theorem State.evalBreaks_ss (s : State) : (s.evalBreaks).ss = s.ss := rfl
@[simp] theorem State.evalBreaks_tw (s : State) : (s.evalBreaks).tw = s.tw := rfl
@[simp] theorem State.evalBreaks_sbs (s : State) : (s.evalBreaks).sbs = s.sbs := rfl
@[simp] theorem State.evalBreaks_sbsReq (s : State) : (s.evalBreaks).sbsReq = s.sbsReq := rfl
@[simp] theorem State.evalBreaks_sbsEnb (s : State) : (s.evalBreaks).sbsEnb = s.sbsEnb := rfl
@[simp] theorem State.evalBreaks_sbsAct (s : State) : (s.evalBreaks).sbsAct = s.sbsAct := rfl
@[simp] theorem State.evalBreaks_sbsLvl (s : State) : (s.evalBreaks).sbsLvl = sbsEval s.sbsReq s.sbsAct := rfl
@[simp] theorem State.evalBreaks_rm (s : State) : (s.evalBreaks).rm = s.rm := rfl
@[simp] theorem State.evalBreaks_rmask (s : State) : (s.evalBreaks).rmask = s.rmask := rfl
@[simp] theorem State.evalBreaks_rtb (s : State) : (s.evalBreaks).rtb = s.rtb := rfl
@[simp] theorem State.evalBreaks_rname (s : State) : (s.evalBreaks).rname = s.rname := rfl
@[simp] theorem State.evalBreaks_ioh (s : State) : (s.evalBreaks).ioh = s.ioh := rfl
@[simp] theorem State.evalBreaks_ios (s : State) : (s.evalBreaks).ios = s.ios := rfl
@[simp] theorem State.evalBreaks_cpls (s : State) : (s.evalBreaks).cpls = s.cpls := rfl
@[simp] theorem State.evalBreaks_xctCount (s : State) : (s.evalBreaks).xctCount = s.xctCount := rfl
@[simp] theorem State.evalBreaks_run (s : State) : (s.evalBreaks).run = s.run := rfl
@[simp] theorem State.evalBreaks_mem (s : State) : (s.evalBreaks).mem = s.mem := rfl
@[simp] theorem State.evalBreaks_hooks (s : State) : (s.evalBreaks).hooks = s.hooks := rfl
@[simp] theorem State.evalBreaks_answers (s : State) : (s.evalBreaks).answers = s.answers := rfl
@[simp] theorem State.evalBreaks_draws (s : State) : (s.evalBreaks).draws = s.draws := rfl
@[simp] theorem State.evalBreaks_console (s : State) : (s.evalBreaks).console = s.console := rfl
@[simp] theorem State.evalBreaks_lastCall (s : State) : (s.evalBreaks).lastCall = s.lastCall := rfl

/-! ### State.recordTrap -/

@[simp] theorem State.recordTrap_straps (s : State) (c : Cause) : (s.recordTrap c).straps = s.straps := rfl
@[simp] theorem State.recordTrap_unitSbs16 (s : State) (c : Cause) : (s.recordTrap c).unitSbs16 = s.unitSbs16 := rfl
@[simp] theorem State.recordTrap_ac (s : State) (c : Cause) : (s.recordTrap c).ac = s.ac := rfl
@[simp] theorem State.recordTrap_io (s : State) (c : Cause) : (s.recordTrap c).io = s.io := rfl
@[simp] theorem State.recordTrap_pc (s : State) (c : Cause) : (s.recordTrap c).pc = s.pc := rfl
@[simp] theorem State.recordTrap_ma (s : State) (c : Cause) : (s.recordTrap c).ma = s.ma := rfl
@[simp] theorem State.recordTrap_mb (s : State) (c : Cause) : (s.recordTrap c).mb = s.mb := rfl
@[simp] theorem State.recordTrap_ir (s : State) (c : Cause) : (s.recordTrap c).ir = s.ir := rfl
@[simp] theorem State.recordTrap_ov (s : State) (c : Cause) : (s.recordTrap c).ov = s.ov := rfl
@[simp] theorem State.recordTrap_pf (s : State) (c : Cause) : (s.recordTrap c).pf = s.pf := rfl
@[simp] theorem State.recordTrap_extm (s : State) (c : Cause) : (s.recordTrap c).extm = s.extm := rfl
@[simp] theorem State.recordTrap_ss (s : State) (c : Cause) : (s.recordTrap c).ss = s.ss := rfl
@[simp] theorem State.recordTrap_tw (s : State) (c : Cause) : (s.recordTrap c).tw = s.tw := rfl
@[simp] theorem State.recordTrap_sbs (s : State) (c : Cause) : (s.recordTrap c).sbs = s.sbs := rfl
@[simp] theorem State.recordTrap_sbsReq (s : State) (c : Cause) : (s.recordTrap c).sbsReq = s.sbsReq := rfl
@[simp] theorem State.recordTrap_sbsEnb (s : State) (c : Cause) : (s.recordTrap c).sbsEnb = s.sbsEnb := rfl
@[simp] theorem State.recordTrap_sbsAct (s : State) (c : Cause) : (s.recordTrap c).sbsAct = s.sbsAct := rfl
@[simp] theorem State.recordTrap_sbsLvl (s : State) (c : Cause) : (s.recordTrap c).sbsLvl = s.sbsLvl := rfl
@[simp] theorem State.recordTrap_rm (s : State) (c : Cause) : (s.recordTrap c).rm = s.rm := rfl
@[simp] theorem State.recordTrap_rmask (s : State) (c : Cause) : (s.recordTrap c).rmask = s.rmask := rfl
@[simp] theorem State.recordTrap_rtb (s : State) (c : Cause) : (s.recordTrap c).rtb = trapRecord s c := rfl
@[simp] theorem State.recordTrap_rname (s : State) (c : Cause) : (s.recordTrap c).rname = s.rname := rfl
@[simp] theorem State.recordTrap_ioh (s : State) (c : Cause) : (s.recordTrap c).ioh = s.ioh := rfl
@[simp] theorem State.recordTrap_ios (s : State) (c : Cause) : (s.recordTrap c).ios = s.ios := rfl
@[simp] theorem State.recordTrap_cpls (s : State) (c : Cause) : (s.recordTrap c).cpls = s.cpls := rfl
@[simp] theorem State.recordTrap_xctCount (s : State) (c : Cause) : (s.recordTrap c).xctCount = s.xctCount := rfl
@[simp] theorem State.recordTrap_run (s : State) (c : Cause) : (s.recordTrap c).run = s.run := rfl
@[simp] theorem State.recordTrap_mem (s : State) (c : Cause) : (s.recordTrap c).mem = s.mem := rfl
@[simp] theorem State.recordTrap_hooks (s : State) (c : Cause) : (s.recordTrap c).hooks = s.hooks := rfl
@[simp] theorem State.recordTrap_answers (s : State) (c : Cause) : (s.recordTrap c).answers = s.answers := rfl
@[simp] theorem State.recordTrap_draws (s : State) (c : Cause) : (s.recordTrap c).draws = s.draws := rfl
@[simp] theorem State.recordTrap_console (s : State) (c : Cause) : (s.recordTrap c).console = s.console := rfl
@[simp] theorem State.recordTrap_lastCall (s : State) (c : Cause) : (s.recordTrap c).lastCall = s.lastCall := rfl

/-! ### trapRedirect -/

@[simp] theorem trapRedirect_straps (s : State) : (trapRedirect s).straps = s.straps := rfl
@[simp] theorem trapRedirect_unitSbs16 (s : State) : (trapRedirect s).unitSbs16 = s.unitSbs16 := rfl
@[simp] theorem trapRedirect_ac (s : State) : (trapRedirect s).ac = s.ac := rfl
@[simp] theorem trapRedirect_io (s : State) : (trapRedirect s).io = s.io := rfl
@[simp] theorem trapRedirect_pc (s : State) : (trapRedirect s).pc = s.pc := rfl
@[simp] theorem trapRedirect_ma (s : State) : (trapRedirect s).ma = s.ma := rfl
@[simp] theorem trapRedirect_mb (s : State) : (trapRedirect s).mb = s.mb := rfl
@[simp] theorem trapRedirect_ir (s : State) : (trapRedirect s).ir = s.ir := rfl
@[simp] theorem trapRedirect_ov (s : State) : (trapRedirect s).ov = s.ov := rfl
@[simp] theorem trapRedirect_pf (s : State) : (trapRedirect s).pf = s.pf := rfl
@[simp] theorem trapRedirect_extm (s : State) : (trapRedirect s).extm = s.extm := rfl
@[simp] theorem trapRedirect_ss (s : State) : (trapRedirect s).ss = s.ss := rfl
@[simp] theorem trapRedirect_tw (s : State) : (trapRedirect s).tw = s.tw := rfl
@[simp] theorem trapRedirect_sbs (s : State) : (trapRedirect s).sbs = s.sbs := rfl
@[simp] theorem trapRedirect_sbsReq (s : State) : (trapRedirect s).sbsReq = setLevel s.sbsReq 14#4 := rfl
@[simp] theorem trapRedirect_sbsEnb (s : State) : (trapRedirect s).sbsEnb = s.sbsEnb := rfl
@[simp] theorem trapRedirect_sbsAct (s : State) : (trapRedirect s).sbsAct = s.sbsAct := rfl
@[simp] theorem trapRedirect_sbsLvl (s : State) : (trapRedirect s).sbsLvl = sbsEval (setLevel s.sbsReq 14#4) s.sbsAct := rfl
@[simp] theorem trapRedirect_rm (s : State) : (trapRedirect s).rm = s.rm := rfl
@[simp] theorem trapRedirect_rmask (s : State) : (trapRedirect s).rmask = s.rmask := rfl
@[simp] theorem trapRedirect_rtb (s : State) : (trapRedirect s).rtb = s.rtb := rfl
@[simp] theorem trapRedirect_rname (s : State) : (trapRedirect s).rname = s.rname := rfl
@[simp] theorem trapRedirect_ioh (s : State) : (trapRedirect s).ioh = s.ioh := rfl
@[simp] theorem trapRedirect_ios (s : State) : (trapRedirect s).ios = s.ios := rfl
@[simp] theorem trapRedirect_cpls (s : State) : (trapRedirect s).cpls = s.cpls := rfl
@[simp] theorem trapRedirect_xctCount (s : State) : (trapRedirect s).xctCount = s.xctCount := rfl
@[simp] theorem trapRedirect_run (s : State) : (trapRedirect s).run = s.run := rfl
@[simp] theorem trapRedirect_mem (s : State) : (trapRedirect s).mem = s.mem := rfl
@[simp] theorem trapRedirect_hooks (s : State) : (trapRedirect s).hooks = s.hooks := rfl
@[simp] theorem trapRedirect_answers (s : State) : (trapRedirect s).answers = s.answers := rfl
@[simp] theorem trapRedirect_draws (s : State) : (trapRedirect s).draws = s.draws := rfl
@[simp] theorem trapRedirect_console (s : State) : (trapRedirect s).console = s.console := rfl
@[simp] theorem trapRedirect_lastCall (s : State) : (trapRedirect s).lastCall = s.lastCall := rfl

/-! ### restorePc -/

@[simp] theorem restorePc_straps (s : State) : (restorePc s).straps = s.straps := rfl
@[simp] theorem restorePc_unitSbs16 (s : State) : (restorePc s).unitSbs16 = s.unitSbs16 := rfl
@[simp] theorem restorePc_ac (s : State) : (restorePc s).ac = s.ac := rfl
@[simp] theorem restorePc_io (s : State) : (restorePc s).io = s.io := rfl
@[simp] theorem restorePc_pc (s : State) : (restorePc s).pc = s.mb.setWidth 16 := rfl
@[simp] theorem restorePc_ma (s : State) : (restorePc s).ma = s.ma := rfl
@[simp] theorem restorePc_mb (s : State) : (restorePc s).mb = s.mb := rfl
@[simp] theorem restorePc_ir (s : State) : (restorePc s).ir = s.ir := rfl
@[simp] theorem restorePc_ov (s : State) : (restorePc s).ov = s.mb.getLsbD 17 := rfl
@[simp] theorem restorePc_pf (s : State) : (restorePc s).pf = s.pf := rfl
@[simp] theorem restorePc_extm (s : State) : (restorePc s).extm = s.mb.getLsbD 16 := rfl
@[simp] theorem restorePc_ss (s : State) : (restorePc s).ss = s.ss := rfl
@[simp] theorem restorePc_tw (s : State) : (restorePc s).tw = s.tw := rfl
@[simp] theorem restorePc_sbs (s : State) : (restorePc s).sbs = s.sbs := rfl
@[simp] theorem restorePc_sbsReq (s : State) : (restorePc s).sbsReq = s.sbsReq := rfl
@[simp] theorem restorePc_sbsEnb (s : State) : (restorePc s).sbsEnb = s.sbsEnb := rfl
@[simp] theorem restorePc_sbsAct (s : State) : (restorePc s).sbsAct = s.sbsAct := rfl
@[simp] theorem restorePc_sbsLvl (s : State) : (restorePc s).sbsLvl = s.sbsLvl := rfl
@[simp] theorem restorePc_rm (s : State) : (restorePc s).rm = s.rm := rfl
@[simp] theorem restorePc_rmask (s : State) : (restorePc s).rmask = s.rmask := rfl
@[simp] theorem restorePc_rtb (s : State) : (restorePc s).rtb = s.rtb := rfl
@[simp] theorem restorePc_rname (s : State) : (restorePc s).rname = s.rname := rfl
@[simp] theorem restorePc_ioh (s : State) : (restorePc s).ioh = s.ioh := rfl
@[simp] theorem restorePc_ios (s : State) : (restorePc s).ios = s.ios := rfl
@[simp] theorem restorePc_cpls (s : State) : (restorePc s).cpls = s.cpls := rfl
@[simp] theorem restorePc_xctCount (s : State) : (restorePc s).xctCount = s.xctCount := rfl
@[simp] theorem restorePc_run (s : State) : (restorePc s).run = s.run := rfl
@[simp] theorem restorePc_mem (s : State) : (restorePc s).mem = s.mem := rfl
@[simp] theorem restorePc_hooks (s : State) : (restorePc s).hooks = s.hooks := rfl
@[simp] theorem restorePc_answers (s : State) : (restorePc s).answers = s.answers := rfl
@[simp] theorem restorePc_draws (s : State) : (restorePc s).draws = s.draws := rfl
@[simp] theorem restorePc_console (s : State) : (restorePc s).console = s.console := rfl
@[simp] theorem restorePc_lastCall (s : State) : (restorePc s).lastCall = s.lastCall := rfl

/-! ### loadInstruction -/

@[simp] theorem loadInstruction_straps (s : State) : (loadInstruction s).straps = s.straps := rfl
@[simp] theorem loadInstruction_unitSbs16 (s : State) : (loadInstruction s).unitSbs16 = s.unitSbs16 := rfl
@[simp] theorem loadInstruction_ac (s : State) : (loadInstruction s).ac = s.ac := rfl
@[simp] theorem loadInstruction_io (s : State) : (loadInstruction s).io = s.io := rfl
@[simp] theorem loadInstruction_pc (s : State) : (loadInstruction s).pc = incrAddr s.pc := rfl
@[simp] theorem loadInstruction_ma (s : State) : (loadInstruction s).ma = s.ma := rfl
@[simp] theorem loadInstruction_mb (s : State) : (loadInstruction s).mb = s.mb := rfl
@[simp] theorem loadInstruction_ir (s : State) : (loadInstruction s).ir = s.mb := rfl
@[simp] theorem loadInstruction_ov (s : State) : (loadInstruction s).ov = s.ov := rfl
@[simp] theorem loadInstruction_pf (s : State) : (loadInstruction s).pf = s.pf := rfl
@[simp] theorem loadInstruction_extm (s : State) : (loadInstruction s).extm = s.extm := rfl
@[simp] theorem loadInstruction_ss (s : State) : (loadInstruction s).ss = s.ss := rfl
@[simp] theorem loadInstruction_tw (s : State) : (loadInstruction s).tw = s.tw := rfl
@[simp] theorem loadInstruction_sbs (s : State) : (loadInstruction s).sbs = s.sbs := rfl
@[simp] theorem loadInstruction_sbsReq (s : State) : (loadInstruction s).sbsReq = s.sbsReq := rfl
@[simp] theorem loadInstruction_sbsEnb (s : State) : (loadInstruction s).sbsEnb = s.sbsEnb := rfl
@[simp] theorem loadInstruction_sbsAct (s : State) : (loadInstruction s).sbsAct = s.sbsAct := rfl
@[simp] theorem loadInstruction_sbsLvl (s : State) : (loadInstruction s).sbsLvl = s.sbsLvl := rfl
@[simp] theorem loadInstruction_rm (s : State) : (loadInstruction s).rm = s.rm := rfl
@[simp] theorem loadInstruction_rmask (s : State) : (loadInstruction s).rmask = s.rmask := rfl
@[simp] theorem loadInstruction_rtb (s : State) : (loadInstruction s).rtb = s.rtb := rfl
@[simp] theorem loadInstruction_rname (s : State) : (loadInstruction s).rname = s.rname := rfl
@[simp] theorem loadInstruction_ioh (s : State) : (loadInstruction s).ioh = s.ioh := rfl
@[simp] theorem loadInstruction_ios (s : State) : (loadInstruction s).ios = s.ios := rfl
@[simp] theorem loadInstruction_cpls (s : State) : (loadInstruction s).cpls = s.cpls := rfl
@[simp] theorem loadInstruction_xctCount (s : State) : (loadInstruction s).xctCount = 0 := rfl
@[simp] theorem loadInstruction_run (s : State) : (loadInstruction s).run = s.run := rfl
@[simp] theorem loadInstruction_mem (s : State) : (loadInstruction s).mem = s.mem := rfl
@[simp] theorem loadInstruction_hooks (s : State) : (loadInstruction s).hooks = s.hooks := rfl
@[simp] theorem loadInstruction_answers (s : State) : (loadInstruction s).answers = s.answers := rfl
@[simp] theorem loadInstruction_draws (s : State) : (loadInstruction s).draws = s.draws := rfl
@[simp] theorem loadInstruction_console (s : State) : (loadInstruction s).console = s.console := rfl
@[simp] theorem loadInstruction_lastCall (s : State) : (loadInstruction s).lastCall = s.lastCall := rfl

/-! ### State.skipIf -/

@[simp] theorem State.skipIf_straps (s : State) (c : Bool) : (s.skipIf c).straps = s.straps := by cases c <;> rfl
@[simp] theorem State.skipIf_unitSbs16 (s : State) (c : Bool) : (s.skipIf c).unitSbs16 = s.unitSbs16 := by cases c <;> rfl
@[simp] theorem State.skipIf_ac (s : State) (c : Bool) : (s.skipIf c).ac = s.ac := by cases c <;> rfl
@[simp] theorem State.skipIf_io (s : State) (c : Bool) : (s.skipIf c).io = s.io := by cases c <;> rfl
@[simp] theorem State.skipIf_pc (s : State) (c : Bool) : (s.skipIf c).pc = if c then incrAddr s.pc else s.pc := by cases c <;> rfl
@[simp] theorem State.skipIf_ma (s : State) (c : Bool) : (s.skipIf c).ma = s.ma := by cases c <;> rfl
@[simp] theorem State.skipIf_mb (s : State) (c : Bool) : (s.skipIf c).mb = s.mb := by cases c <;> rfl
@[simp] theorem State.skipIf_ir (s : State) (c : Bool) : (s.skipIf c).ir = s.ir := by cases c <;> rfl
@[simp] theorem State.skipIf_ov (s : State) (c : Bool) : (s.skipIf c).ov = s.ov := by cases c <;> rfl
@[simp] theorem State.skipIf_pf (s : State) (c : Bool) : (s.skipIf c).pf = s.pf := by cases c <;> rfl
@[simp] theorem State.skipIf_extm (s : State) (c : Bool) : (s.skipIf c).extm = s.extm := by cases c <;> rfl
@[simp] theorem State.skipIf_ss (s : State) (c : Bool) : (s.skipIf c).ss = s.ss := by cases c <;> rfl
@[simp] theorem State.skipIf_tw (s : State) (c : Bool) : (s.skipIf c).tw = s.tw := by cases c <;> rfl
@[simp] theorem State.skipIf_sbs (s : State) (c : Bool) : (s.skipIf c).sbs = s.sbs := by cases c <;> rfl
@[simp] theorem State.skipIf_sbsReq (s : State) (c : Bool) : (s.skipIf c).sbsReq = s.sbsReq := by cases c <;> rfl
@[simp] theorem State.skipIf_sbsEnb (s : State) (c : Bool) : (s.skipIf c).sbsEnb = s.sbsEnb := by cases c <;> rfl
@[simp] theorem State.skipIf_sbsAct (s : State) (c : Bool) : (s.skipIf c).sbsAct = s.sbsAct := by cases c <;> rfl
@[simp] theorem State.skipIf_sbsLvl (s : State) (c : Bool) : (s.skipIf c).sbsLvl = s.sbsLvl := by cases c <;> rfl
@[simp] theorem State.skipIf_rm (s : State) (c : Bool) : (s.skipIf c).rm = s.rm := by cases c <;> rfl
@[simp] theorem State.skipIf_rmask (s : State) (c : Bool) : (s.skipIf c).rmask = s.rmask := by cases c <;> rfl
@[simp] theorem State.skipIf_rtb (s : State) (c : Bool) : (s.skipIf c).rtb = s.rtb := by cases c <;> rfl
@[simp] theorem State.skipIf_rname (s : State) (c : Bool) : (s.skipIf c).rname = s.rname := by cases c <;> rfl
@[simp] theorem State.skipIf_ioh (s : State) (c : Bool) : (s.skipIf c).ioh = s.ioh := by cases c <;> rfl
@[simp] theorem State.skipIf_ios (s : State) (c : Bool) : (s.skipIf c).ios = s.ios := by cases c <;> rfl
@[simp] theorem State.skipIf_cpls (s : State) (c : Bool) : (s.skipIf c).cpls = s.cpls := by cases c <;> rfl
@[simp] theorem State.skipIf_xctCount (s : State) (c : Bool) : (s.skipIf c).xctCount = s.xctCount := by cases c <;> rfl
@[simp] theorem State.skipIf_run (s : State) (c : Bool) : (s.skipIf c).run = s.run := by cases c <;> rfl
@[simp] theorem State.skipIf_mem (s : State) (c : Bool) : (s.skipIf c).mem = s.mem := by cases c <;> rfl
@[simp] theorem State.skipIf_hooks (s : State) (c : Bool) : (s.skipIf c).hooks = s.hooks := by cases c <;> rfl
@[simp] theorem State.skipIf_answers (s : State) (c : Bool) : (s.skipIf c).answers = s.answers := by cases c <;> rfl
@[simp] theorem State.skipIf_draws (s : State) (c : Bool) : (s.skipIf c).draws = s.draws := by cases c <;> rfl
@[simp] theorem State.skipIf_console (s : State) (c : Bool) : (s.skipIf c).console = s.console := by cases c <;> rfl
@[simp] theorem State.skipIf_lastCall (s : State) (c : Bool) : (s.skipIf c).lastCall = s.lastCall := by cases c <;> rfl

/-- A skip on a condition as one record update. -/
theorem State.skipIf_eq (s : State) (c : Bool) : s.skipIf c = { s with pc := if c then incrAddr s.pc else s.pc } := by
  cases c <;> rfl

end Sys2Proof.Machine
end

