-- ==== Sys2Proof/Laws/Memory.lean ====
section
/-! SUPPORT. Memory: reading after writing, and that every memory operation keeps the canonical form. -/

namespace Sys2Proof.Machine

@[simp] theorem Memory.get_nil (a : Nat) : Memory.get [] a = 0#18 := rfl

theorem Memory.get_cons (b : Nat) (v : Word) (m : Memory) (a : Nat) :
    Memory.get ((b, v) :: m) a = if a = b then v else Memory.get m a := rfl

/-- Below the first listed address of a memory in canonical form every word is 0. -/
theorem Memory.get_of_wfFrom {m : Memory} {lo a : Nat} (h : Memory.wfFrom lo m = true) (ha : a < lo) :
    Memory.get m a = 0#18 := by
  induction m generalizing lo with
  | nil => rfl
  | cons c m ih =>
    obtain ⟨b, v⟩ := c
    simp only [Memory.wfFrom, Bool.and_eq_true, decide_eq_true_eq] at h
    rw [Memory.get_cons, if_neg (by omega), ih h.2 (by omega)]

theorem Memory.wfFrom_mono {m : Memory} {lo lo' : Nat} (h : Memory.wfFrom lo m = true) (hl : lo' ≤ lo) :
    Memory.wfFrom lo' m = true := by
  cases m with
  | nil => rfl
  | cons c m =>
    simp only [Memory.wfFrom, Bool.and_eq_true, decide_eq_true_eq] at h ⊢
    exact ⟨⟨by omega, h.1.2⟩, h.2⟩

theorem Memory.get_cell (a b : Nat) (v : Word) (m : Memory) (h : Memory.get m a = 0#18) :
    Memory.get (Memory.cell a v m) b = if b = a then v else Memory.get m b := by
  unfold Memory.cell
  by_cases hv : v = 0#18
  · by_cases hb : b = a <;> simp [hv, hb, h]
  · simp [hv, Memory.get_cons]

theorem Memory.wfFrom_cell {m : Memory} {lo a : Nat} (v : Word) (h : Memory.wfFrom (a + 1) m = true) (ha : lo ≤ a) :
    Memory.wfFrom lo (Memory.cell a v m) = true := by
  unfold Memory.cell
  by_cases hv : v = 0#18
  · simpa [hv] using Memory.wfFrom_mono h (by omega)
  · simp [hv, Memory.wfFrom, ha, h]

/-- A write keeps the canonical form. -/
theorem Memory.wfFrom_set {m : Memory} {lo : Nat} (a : Nat) (v : Word) (h : Memory.wfFrom lo m = true) (ha : lo ≤ a) :
    Memory.wfFrom lo (Memory.set m a v) = true := by
  induction m generalizing lo with
  | nil => exact Memory.wfFrom_cell v rfl ha
  | cons c m ih =>
    obtain ⟨b, w⟩ := c
    have hc := h
    simp only [Memory.wfFrom, Bool.and_eq_true, decide_eq_true_eq] at h
    unfold Memory.set
    split
    · refine Memory.wfFrom_cell v ?_ ha
      simp only [Memory.wfFrom, Bool.and_eq_true, decide_eq_true_eq]
      exact ⟨⟨by omega, h.1.2⟩, h.2⟩
    · split
      · subst_vars; exact Memory.wfFrom_cell v h.2 h.1.1
      · simp only [Memory.wfFrom, Bool.and_eq_true, decide_eq_true_eq]
        exact ⟨h.1, ih h.2 (by omega)⟩

/-- A word after a write: the value written at that address, the old word everywhere else. -/
theorem Memory.get_set_from {m : Memory} {lo : Nat} (a b : Nat) (v : Word) (h : Memory.wfFrom lo m = true) :
    Memory.get (Memory.set m a v) b = if b = a then v else Memory.get m b := by
  induction m generalizing lo with
  | nil => exact Memory.get_cell a b v [] rfl
  | cons c m ih =>
    obtain ⟨d, w⟩ := c
    simp only [Memory.wfFrom, Bool.and_eq_true, decide_eq_true_eq] at h
    unfold Memory.set
    split
    · rename_i had
      refine Memory.get_cell a b v _ ?_
      rw [Memory.get_cons, if_neg (by omega), Memory.get_of_wfFrom h.2 (by omega)]
    · split
      · rename_i had
        subst had
        rw [Memory.get_cell _ _ _ _ (Memory.get_of_wfFrom h.2 (by omega)), Memory.get_cons]
        by_cases hb : b = a <;> simp [hb]
      · rw [Memory.get_cons, ih h.2, Memory.get_cons]
        by_cases hb : b = a
        · subst hb; simp; omega
        · simp [hb]

theorem Memory.get_set {m : Memory} (a b : Nat) (v : Word) (h : m.wf = true) :
    Memory.get (Memory.set m a v) b = if b = a then v else Memory.get m b :=
  Memory.get_set_from a b v h

/-- Whatever the form of memory, a write leaves every other word alone. -/
theorem Memory.get_set_other (m : Memory) {a b : Nat} (v : Word) (h : b ≠ a) :
    Memory.get (Memory.set m a v) b = Memory.get m b := by
  have hcell : ∀ m' : Memory, Memory.get (Memory.cell a v m') b = Memory.get m' b := by
    intro m'
    unfold Memory.cell
    split
    · rfl
    · rw [Memory.get_cons, if_neg h]
  induction m with
  | nil => exact hcell []
  | cons c m ih =>
    obtain ⟨d, w⟩ := c
    unfold Memory.set
    split
    · exact hcell _
    · split
      · rename_i had
        rw [hcell, Memory.get_cons, if_neg (by omega)]
      · rw [Memory.get_cons, Memory.get_cons, ih]

/-- A write lists no address but the one written. -/
theorem Memory.mem_set {m : Memory} {a : Nat} {v : Word} {c : Nat × Word} (h : c ∈ Memory.set m a v) :
    c = (a, v) ∨ c ∈ m := by
  have hcell : ∀ m' : Memory, c ∈ Memory.cell a v m' → c = (a, v) ∨ c ∈ m' := by
    intro m' hm
    unfold Memory.cell at hm
    split at hm
    · exact .inr hm
    · simpa using hm
  induction m with
  | nil => exact hcell [] h
  | cons d m ih =>
    obtain ⟨b, w⟩ := d
    unfold Memory.set at h
    split at h
    · exact hcell _ h
    · split at h
      · exact (hcell _ h).imp id (List.mem_cons_of_mem _)
      · rcases List.mem_cons.mp h with h | h
        · exact .inr (h ▸ List.mem_cons_self)
        · exact (ih h).imp id (List.mem_cons_of_mem _)

/-- A store keeps memory in canonical form. -/
theorem State.stored_wf {s : State} (a : Addr) (v : Word) (h : s.mem.wf = true) : (s.stored a v).wf = true := by
  unfold State.stored
  split
  · exact Memory.wfFrom_set _ v h (Nat.zero_le _)
  · exact h

/-- A store touches one word. -/
theorem State.word_store_other (s : State) {a b : Addr} (v : Word) (h : b ≠ a) : (s.store a v).word b = s.word b := by
  have hn : b.toNat ≠ a.toNat := fun e => h (BitVec.eq_of_toNat_eq e)
  by_cases ha : a.toNat < s.straps.memsize
  · simp [State.word, State.stored, ha, Memory.get_set_other _ _ hn]
  · simp [State.word, State.stored, ha]

/-- A store below `MEMSIZE` is read back. -/
theorem State.word_store_same {s : State} {a : Addr} (v : Word) (hm : s.mem.wf = true) (h : a.toNat < s.straps.memsize) :
    (s.store a v).word a = v := by
  simp [State.word, State.stored, h, Memory.get_set _ _ _ hm]

/-- The memory of the machine after reset is in canonical form. -/
theorem reset_mem_wf : State.reset.mem.wf = true := rfl

end Sys2Proof.Machine
end

