-- ==== Sys2Proof/Laws/Ops.lean ====
section
/-! SUPPORT. What the shared operations can do, said once for each. -/

namespace Sys2Proof.Machine

/-! ### Sequencing -/

@[simp] theorem Res.andThen_ok (s : State) (f : State → Res) : (Res.ok s).andThen f = f s := rfl
@[simp] theorem Res.andThen_trap (s : State) (f : State → Res) : (Res.trap s).andThen f = .trap s := rfl
@[simp] theorem Res.andThen_stop (r : StopReason) (s : State) (f : State → Res) :
    (Res.stop r s).andThen f = .stop r s := rfl
@[simp] theorem Res.andThen_refused (r : Refusal) (f : State → Res) : (Res.refused r).andThen f = .refused r := rfl
@[simp] theorem Res.finish_ok (s : State) : (Res.ok s).finish = .next s := rfl
@[simp] theorem Res.finish_trap (s : State) : (Res.trap s).finish = .next (trapRedirect s) := rfl
@[simp] theorem Res.finish_stop (r : StopReason) (s : State) : (Res.stop r s).finish = .next (s.stopWith r) := rfl
@[simp] theorem Res.finish_refused (r : Refusal) : (Res.refused r).finish = .refused r := rfl

/-- A sequence goes through if both parts do. -/
theorem Res.andThen_eq_ok {r : Res} {f : State → Res} {t : State} :
    r.andThen f = .ok t ↔ ∃ s, r = .ok s ∧ f s = .ok t := by
  cases r <;> simp

/-- `P` of whatever state an operation leaves, however it ends. -/
def Res.Leaves (P : State → Prop) : Res → Prop
  | .ok s => P s
  | .trap s => P s
  | .stop _ s => P s
  | .refused _ => True

/-- What both parts of a sequence leave. -/
theorem Res.Leaves.andThen {P : State → Prop} {r : Res} {f : State → Res} (h : r.Leaves P)
    (hf : ∀ s, r = .ok s → P s → (f s).Leaves P) : (r.andThen f).Leaves P := by
  cases r with
  | ok s => exact hf s rfl h
  | trap s => exact h
  | stop k s => exact h
  | refused k => trivial

theorem Res.Leaves.mono {P Q : State → Prop} {r : Res} (h : r.Leaves P) (hpq : ∀ s, P s → Q s) : r.Leaves Q := by
  cases r with
  | ok s => exact hpq s h
  | trap s => exact hpq s h
  | stop k s => exact hpq s h
  | refused k => trivial

/-- How an instruction that ends in a next state has ended. -/
theorem Res.finish_eq_next {r : Res} {t : State} (h : r.finish = .next t) :
    r = .ok t ∨ (∃ s, r = .trap s ∧ t = trapRedirect s) ∨ (∃ k s, r = .stop k s ∧ t = s.stopWith k) := by
  cases r <;> simp_all [Res.finish]

/-! ### The protected accesses -/

/-- `Read()` goes through exactly where there is no violation, and loads MB. -/
theorem readWord_eq_ok {s t : State} : readWord s = .ok t ↔ violation s s.ma = false ∧ t = s.withMb (s.word s.ma) := by
  unfold readWord violate
  cases h : violation s s.ma <;> simp [eq_comm]

/-- `Read()` where there is a violation. -/
theorem readWord_violation {s : State} (h : violation s s.ma = true) : readWord s = .trap (s.recordTrap .access) := by
  simp [readWord, h, violate]

/-- `Write()` goes through exactly where there is no violation, and stores MB. -/
theorem writeWord_eq_ok {s t : State} : writeWord s = .ok t ↔ violation s s.ma = false ∧ t = s.store s.ma s.mb := by
  unfold writeWord violate
  cases h : violation s s.ma <;> simp [eq_comm]

/-- `Write()` where there is a violation. -/
theorem writeWord_violation {s : State} (h : violation s s.ma = true) : writeWord s = .trap (s.recordTrap .access) := by
  simp [writeWord, h, violate]

/-- `Read()` where there is no violation. -/
theorem readWord_of {s : State} (h : violation s s.ma = false) : readWord s = .ok (s.withMb (s.word s.ma)) :=
  readWord_eq_ok.mpr ⟨h, rfl⟩

/-- `Write()` where there is no violation. -/
theorem writeWord_of {s : State} (h : violation s s.ma = false) : writeWord s = .ok (s.store s.ma s.mb) :=
  writeWord_eq_ok.mpr ⟨h, rfl⟩

/-- The check depends on restrict mode, the active levels, the mask and the straps only. -/
theorem violation_congr {s t : State} (hr : t.rm = s.rm) (ha : t.sbsAct = s.sbsAct) (hm : t.rmask = s.rmask)
    (hs : t.straps = s.straps) (a : Addr) : violation t a = violation s a := by
  simp [violation, restricted, denied, hr, ha, hm, hs]

/-- Outside restricted mode there is no violation. -/
theorem violation_of_unrestricted {s : State} (h : restricted s = false) (a : Addr) : violation s a = false := by
  simp [violation, h]

/-! ### The effective address -/

/-- The states that differ from `s` in MA, MB and the trap buffer only: what an address resolution leaves. -/
def SameButLatches (s t : State) : Prop := t = { s with ma := t.ma, mb := t.mb, rtb := t.rtb }

theorem SameButLatches.refl (s : State) : SameButLatches s s := rfl

theorem SameButLatches.trans {s t u : State} (h : SameButLatches s t) (h' : SameButLatches t u) : SameButLatches s u := by
  unfold SameButLatches at *
  rw [h'] at *
  rw [h]

theorem SameButLatches.withMa (s : State) (a : Addr) : SameButLatches s (s.withMa a) := rfl

theorem readWord_leaves (s : State) : (readWord s).Leaves (SameButLatches s) := by
  unfold readWord violate
  split <;> rfl

theorem chase_leaves (n : Nat) (s : State) : (chase n s).Leaves (SameButLatches s) := by
  induction n generalizing s with
  | zero => exact SameButLatches.refl s
  | succ n ih =>
    refine (readWord_leaves s).andThen fun t _ ht => ?_
    have h1 : SameButLatches s (t.withMa (chainAddr t.pc t.mb)) := ht.trans rfl
    show Res.Leaves _ (if hasIndirect t.mb then _ else _)
    split
    · exact (ih _).mono fun u hu => h1.trans hu
    · exact h1

/-- An address resolution, however it ends, writes nothing but MA, MB and the trap buffer. -/
theorem ea_leaves (ind : Bool) (y : BitVec 12) (s : State) : (ea ind y s).Leaves (SameButLatches s) := by
  unfold ea
  simp only
  split
  · rfl
  · split
    · exact ((readWord_leaves _).mono fun u hu => (SameButLatches.withMa s _).trans hu).andThen fun t _ ht => ht.trans rfl
    · exact (chase_leaves _ _).mono fun u hu => (SameButLatches.withMa s _).trans hu

/-- The same of the operand fetch. -/
theorem operand_leaves (ind : Bool) (y : BitVec 12) (s : State) : (operand ind y s).Leaves (SameButLatches s) :=
  (ea_leaves ind y s).andThen fun t _ ht => (readWord_leaves t).mono fun _ hu => ht.trans hu

/-- The operand fetch goes through exactly where the address resolves and its word may be read. -/
theorem operand_eq_ok {ind : Bool} {y : BitVec 12} {s u : State} :
    operand ind y s = .ok u ↔ ∃ t, ea ind y s = .ok t ∧ violation t t.ma = false ∧ u = t.withMb (t.word t.ma) := by
  simp [operand, Res.andThen_eq_ok, readWord_eq_ok]

/-- A direct reference resolves at once. -/
theorem ea_direct (y : BitVec 12) (s : State) : ea false y s = .ok (s.withMa (directAddr s.pc y)) := rfl

/-! ### The byte pointer -/

/-- The states that differ from `s` in MA, MB, the trap buffer and memory only. -/
def SameButMemory (s t : State) : Prop := t = { s with ma := t.ma, mb := t.mb, rtb := t.rtb, mem := t.mem }

theorem SameButMemory.trans {s t u : State} (h : SameButMemory s t) (h' : SameButMemory t u) : SameButMemory s u := by
  unfold SameButMemory at *
  rw [h'] at *
  rw [h]

theorem SameButLatches.sameButMemory {s t : State} (h : SameButLatches s t) : SameButMemory s t := by
  unfold SameButMemory SameButLatches at *
  rw [h]

theorem writeWord_leaves (s : State) : (writeWord s).Leaves (SameButMemory s) := by
  unfold writeWord violate
  split <;> rfl

theorem chasePointer_leaves (n : Nat) (s : State) : (chasePointer n s).Leaves (SameButLatches s) := by
  induction n generalizing s with
  | zero => exact SameButLatches.refl s
  | succ n ih =>
    refine (readWord_leaves s).andThen fun t _ ht => ?_
    have h1 : SameButLatches s (t.withMa (chainAddr t.pc t.mb)) := ht.trans rfl
    show Res.Leaves _ (if hasIndirect t.mb then _ else _)
    split
    · exact (ih _).mono fun u hu => h1.trans hu
    · exact ht

theorem advancePointer_leaves (s : State) : (advancePointer s).Leaves (SameButMemory s) := by
  unfold advancePointer violate
  split
  · rfl
  · refine (writeWord_leaves _).mono fun u hu => ?_
    have h1 : SameButMemory s (s.withMb (bpIncr s.straps.charFormat s.mb (ringMode s))) := rfl
    exact h1.trans hu

/-- The pointer resolution, however it ends, writes nothing but MA, MB, the trap buffer and memory. -/
theorem eaCh_leaves (auto : Bool) (y : BitVec 12) (s : State) : (eaCh auto y s).Leaves (SameButMemory s) := by
  unfold eaCh
  refine Res.Leaves.andThen (Res.Leaves.andThen ?_ fun t _ ht => ?_) fun t _ ht => ht.trans rfl
  · split
    · exact (readWord_leaves _).mono fun u hu => ((SameButLatches.withMa s _).trans hu).sameButMemory
    · exact (chasePointer_leaves _ _).mono fun u hu => ((SameButLatches.withMa s _).trans hu).sameButMemory
  · split
    · exact (advancePointer_leaves t).mono fun u hu => ht.trans hu
    · exact ht

/-! ### Undefined instructions, ports, breaks -/

/-- All an undefined instruction can do. -/
theorem undefinedInstruction_cases (s : State) :
    (restricted s = true ∧ undefinedInstruction s = .trap (s.recordTrap .ill)) ∨
    (restricted s = false ∧ s.straps.stopInst = true ∧ undefinedInstruction s = .stop .rsrv s) ∨
    (restricted s = false ∧ s.straps.stopInst = false ∧ undefinedInstruction s = .ok s) := by
  unfold undefinedInstruction violate
  cases restricted s <;> cases s.straps.stopInst <;> simp

/-- A use of a port writes nothing but RQ, the requests, memory, the synchronizer and the owing devices. -/
theorem portAction_leaves (a : PortAction) (s : State) :
    portAction a s = { s with
      sbs := { s.sbs with rq := (portAction a s).sbs.rq }
      sbsReq := (portAction a s).sbsReq
      mem := (portAction a s).mem
      ios := (portAction a s).ios
      cpls := (portAction a s).cpls } := by
  cases a with
  | breakRequest l =>
    unfold portAction breakRequest
    dsimp only
    split
    · split <;> rfl
    · rfl
  | _ => rfl

/-- The same of the uses of the ports during one call. -/
theorem portActions_leaves (as : List PortAction) (s : State) :
    portActions as s = { s with
      sbs := { s.sbs with rq := (portActions as s).sbs.rq }
      sbsReq := (portActions as s).sbsReq
      mem := (portActions as s).mem
      ios := (portActions as s).ios
      cpls := (portActions as s).cpls } := by
  induction as generalizing s with
  | nil => rfl
  | cons a as ih =>
    have h1 : portActions (a :: as) s = portActions as (portAction a s) := rfl
    have h2 := ih (portAction a s)
    rw [h1]
    generalize portActions as (portAction a s) = t at h2
    rw [h2, portAction_leaves a s]

/-- A use of a port keeps memory in canonical form. -/
theorem portAction_mem_wf (a : PortAction) {s : State} (h : s.mem.wf = true) : (portAction a s).mem.wf = true := by
  cases a with
  | dmaWrite a v => exact State.stored_wf a v h
  | breakRequest l =>
    unfold portAction breakRequest
    dsimp only
    split
    · split <;> exact h
    · exact h
  | _ => exact h

/-- A step of a sequence break writes its saved words in order: with no violation an entry's store goes through. -/
theorem writeAt_of {a : Addr} {v : Word} {s : State} (h : violation s a = false) :
    writeAt a v s = .ok (((s.withMa a).withMb v).store a v) :=
  writeWord_of (s := (s.withMa a).withMb v) h

/-- A dismissal, however it ends, writes nothing but the level, MA, MB, the trap buffer, OV, extend mode and PC. -/
theorem dismiss_leaves (l : BitVec 4) (s : State) :
    (dismiss l s).Leaves fun t => t = { leaveLevel l s with
      ma := t.ma, mb := t.mb, rtb := t.rtb, ov := t.ov, extm := t.extm, pc := t.pc } := by
  refine (readWord_leaves _).mono (fun u hu => ?_) |>.andThen fun t _ ht => ?_
  · rw [hu]; rfl
  · rw [ht]; rfl

/-! ### The wait protocol of an I/O transfer -/

/-- A restricted program's I/O transfer traps. -/
theorem iotIssue_restricted {s : State} (w : Bool) (f : State → Res) (h : restricted s = true) :
    iotIssue w f s = .trap (s.recordTrap .iot) := by
  simp [iotIssue, h, violate]

/-- A first issue of an unrestricted program has the answer. -/
theorem iotIssue_first {w : Bool} {s : State} (f : State → Res) (h : restricted s = false)
    (hi : w = false ∨ s.ioh = false) : iotIssue w f s = f s := by
  rcases hi with rfl | hi <;> simp [iotIssue, *]

/-- A re-issue of an unrestricted program only waits. -/
theorem iotIssue_again {s : State} (f : State → Res) (h : restricted s = false) (hi : s.ioh = true) :
    iotIssue true f s = waitOn s := by
  simp [iotIssue, h, hi]

/-- All a wait can do: end, go on, or stop the machine. -/
theorem waitOn_cases (s : State) :
    (s.ios = true ∧ waitOn s = .ok { s with ioh := false }) ∨
    (s.ios = false ∧ s.cpls = [] ∧ waitOn s = .stop .wait s.backUp) ∨
    (s.ios = false ∧ s.cpls ≠ [] ∧ waitOn s = .ok s.backUp) := by
  unfold waitOn
  cases s.ios <;> cases hc : s.cpls <;> simp

/-- What starting the wait changes: the latch and PC. -/
theorem startWait_eq (w : Bool) (s : State) :
    startWait w s = { s with pc := if w then decrAddr s.pc else s.pc, ioh := w || s.ioh } := by
  cases w <;> rfl

end Sys2Proof.Machine
end

