-- ==== Sys2Proof/Laws/PerInstr.lean ====
section
/-! SUPPORT. For every instruction: its word lies in its row of the opcode table. The masks and matches
are the table's own. -/

namespace Sys2Proof.Laws.RowBits

/-- `mask` of the row of an instruction in the opcode table. -/
def rowMask : Instr → Word
  | .undef0 _ => 0o760000#18
  | .and _ _ => 0o760000#18
  | .ior _ _ => 0o760000#18
  | .xor _ _ => 0o760000#18
  | .xct _ _ => 0o760000#18
  | .lch _ _ => 0o760000#18
  | .dch _ _ => 0o760000#18
  | .cal _ => 0o770000#18
  | .jda _ => 0o770000#18
  | .lac _ _ => 0o760000#18
  | .lio _ _ => 0o760000#18
  | .dac _ _ => 0o760000#18
  | .dap _ _ => 0o760000#18
  | .dip _ _ => 0o760000#18
  | .dio _ _ => 0o760000#18
  | .dzm _ _ => 0o760000#18
  | .tad _ _ => 0o760000#18
  | .add _ _ => 0o760000#18
  | .sub _ _ => 0o760000#18
  | .idx _ _ => 0o760000#18
  | .isp _ _ => 0o760000#18
  | .sad _ _ => 0o760000#18
  | .sas _ _ => 0o760000#18
  | .mul _ _ => 0o760000#18
  | .mus _ _ => 0o760000#18
  | .div _ _ => 0o760000#18
  | .dis _ _ => 0o760000#18
  | .jmpDismiss _ => 0o777703#18
  | .jmp _ _ => 0o760000#18
  | .jsp _ _ => 0o760000#18
  | .skp _ => 0o760000#18
  | .ral _ => 0o777000#18
  | .ril _ => 0o777000#18
  | .rcl _ => 0o777000#18
  | .sal _ => 0o777000#18
  | .sil _ => 0o777000#18
  | .scl _ => 0o777000#18
  | .rar _ => 0o777000#18
  | .rir _ => 0o777000#18
  | .rcr _ => 0o777000#18
  | .sar _ => 0o777000#18
  | .sir _ => 0o777000#18
  | .scr _ => 0o777000#18
  | .sftUndef00 _ => 0o777000#18
  | .sftUndef04 _ => 0o777000#18
  | .sftUndef10 _ => 0o777000#18
  | .sftUndef14 _ => 0o777000#18
  | .law _ _ => 0o760000#18
  | .rngClr _ _ _ => 0o760077#18
  | .rngSet _ _ _ => 0o760077#18
  | .rtb _ _ _ => 0o760077#18
  | .dsc _ _ _ => 0o760077#18
  | .asc _ _ _ => 0o760077#18
  | .isb _ _ _ => 0o760077#18
  | .cac _ _ _ => 0o760077#18
  | .lsm _ _ _ => 0o760077#18
  | .esm _ _ _ => 0o760077#18
  | .cbs _ _ _ => 0o760077#18
  | .lrm _ _ _ => 0o760077#18
  | .erm _ _ _ => 0o760077#18
  | .rnm _ _ _ => 0o760077#18
  | .rsm _ _ _ => 0o760077#18
  | .lem _ _ => 0o764077#18
  | .eem _ _ => 0o764077#18
  | .iot _ _ _ _ => 0o760000#18
  | .spc _ => 0o760000#18
  | .opr _ => 0o760000#18

/-- `match` of the row of an instruction in the opcode table. -/
def rowMatch : Instr → Word
  | .undef0 _ => 0o0#18
  | .and _ _ => 0o20000#18
  | .ior _ _ => 0o40000#18
  | .xor _ _ => 0o60000#18
  | .xct _ _ => 0o100000#18
  | .lch _ _ => 0o120000#18
  | .dch _ _ => 0o140000#18
  | .cal _ => 0o160000#18
  | .jda _ => 0o170000#18
  | .lac _ _ => 0o200000#18
  | .lio _ _ => 0o220000#18
  | .dac _ _ => 0o240000#18
  | .dap _ _ => 0o260000#18
  | .dip _ _ => 0o300000#18
  | .dio _ _ => 0o320000#18
  | .dzm _ _ => 0o340000#18
  | .tad _ _ => 0o360000#18
  | .add _ _ => 0o400000#18
  | .sub _ _ => 0o420000#18
  | .idx _ _ => 0o440000#18
  | .isp _ _ => 0o460000#18
  | .sad _ _ => 0o500000#18
  | .sas _ _ => 0o520000#18
  | .mul _ _ => 0o540000#18
  | .mus _ _ => 0o540000#18
  | .div _ _ => 0o560000#18
  | .dis _ _ => 0o560000#18
  | .jmpDismiss _ => 0o610001#18
  | .jmp _ _ => 0o600000#18
  | .jsp _ _ => 0o620000#18
  | .skp _ => 0o640000#18
  | .ral _ => 0o661000#18
  | .ril _ => 0o662000#18
  | .rcl _ => 0o663000#18
  | .sal _ => 0o665000#18
  | .sil _ => 0o666000#18
  | .scl _ => 0o667000#18
  | .rar _ => 0o671000#18
  | .rir _ => 0o672000#18
  | .rcr _ => 0o673000#18
  | .sar _ => 0o675000#18
  | .sir _ => 0o676000#18
  | .scr _ => 0o677000#18
  | .sftUndef00 _ => 0o660000#18
  | .sftUndef04 _ => 0o664000#18
  | .sftUndef10 _ => 0o670000#18
  | .sftUndef14 _ => 0o674000#18
  | .law _ _ => 0o700000#18
  | .rngClr _ _ _ => 0o720010#18
  | .rngSet _ _ _ => 0o720011#18
  | .rtb _ _ _ => 0o720035#18
  | .dsc _ _ _ => 0o720050#18
  | .asc _ _ _ => 0o720051#18
  | .isb _ _ _ => 0o720052#18
  | .cac _ _ _ => 0o720053#18
  | .lsm _ _ _ => 0o720054#18
  | .esm _ _ _ => 0o720055#18
  | .cbs _ _ _ => 0o720056#18
  | .lrm _ _ _ => 0o720064#18
  | .erm _ _ _ => 0o720065#18
  | .rnm _ _ _ => 0o720066#18
  | .rsm _ _ _ => 0o720067#18
  | .lem _ _ => 0o720074#18
  | .eem _ _ => 0o724074#18
  | .iot _ _ _ _ => 0o720000#18
  | .spc _ => 0o740000#18
  | .opr _ => 0o760000#18

/-- The word of an instruction has its row's fixed bits. -/
def Statement (i : Instr) : Prop := encode i &&& rowMask i = rowMatch i

theorem undef0 (bits : BitVec 13) : Statement (.undef0 bits) :=
  (wordRest_mask 0o00#5 bits).trans rfl

theorem and (ind : Bool) (y : BitVec 12) : Statement (.and ind y) :=
  (wordMem_mask 0o01#5 ind y).trans rfl

theorem ior (ind : Bool) (y : BitVec 12) : Statement (.ior ind y) :=
  (wordMem_mask 0o02#5 ind y).trans rfl

theorem xor (ind : Bool) (y : BitVec 12) : Statement (.xor ind y) :=
  (wordMem_mask 0o03#5 ind y).trans rfl

theorem xct (ind : Bool) (y : BitVec 12) : Statement (.xct ind y) :=
  (wordMem_mask 0o04#5 ind y).trans rfl

theorem lch (auto : Bool) (y : BitVec 12) : Statement (.lch auto y) :=
  (wordMem_mask 0o05#5 auto y).trans rfl

theorem dch (auto : Bool) (y : BitVec 12) : Statement (.dch auto y) :=
  (wordMem_mask 0o06#5 auto y).trans rfl

theorem cal (y : BitVec 12) : Statement (.cal y) :=
  (wordMem_mask_flag 0o07#5 false y).trans rfl

theorem jda (y : BitVec 12) : Statement (.jda y) :=
  (wordMem_mask_flag 0o07#5 true y).trans rfl

theorem lac (ind : Bool) (y : BitVec 12) : Statement (.lac ind y) :=
  (wordMem_mask 0o10#5 ind y).trans rfl

theorem lio (ind : Bool) (y : BitVec 12) : Statement (.lio ind y) :=
  (wordMem_mask 0o11#5 ind y).trans rfl

theorem dac (ind : Bool) (y : BitVec 12) : Statement (.dac ind y) :=
  (wordMem_mask 0o12#5 ind y).trans rfl

theorem dap (ind : Bool) (y : BitVec 12) : Statement (.dap ind y) :=
  (wordMem_mask 0o13#5 ind y).trans rfl

theorem dip (ind : Bool) (y : BitVec 12) : Statement (.dip ind y) :=
  (wordMem_mask 0o14#5 ind y).trans rfl

theorem dio (ind : Bool) (y : BitVec 12) : Statement (.dio ind y) :=
  (wordMem_mask 0o15#5 ind y).trans rfl

theorem dzm (ind : Bool) (y : BitVec 12) : Statement (.dzm ind y) :=
  (wordMem_mask 0o16#5 ind y).trans rfl

theorem tad (ind : Bool) (y : BitVec 12) : Statement (.tad ind y) :=
  (wordMem_mask 0o17#5 ind y).trans rfl

theorem add (ind : Bool) (y : BitVec 12) : Statement (.add ind y) :=
  (wordMem_mask 0o20#5 ind y).trans rfl

theorem sub (ind : Bool) (y : BitVec 12) : Statement (.sub ind y) :=
  (wordMem_mask 0o21#5 ind y).trans rfl

theorem idx (ind : Bool) (y : BitVec 12) : Statement (.idx ind y) :=
  (wordMem_mask 0o22#5 ind y).trans rfl

theorem isp (ind : Bool) (y : BitVec 12) : Statement (.isp ind y) :=
  (wordMem_mask 0o23#5 ind y).trans rfl

theorem sad (ind : Bool) (y : BitVec 12) : Statement (.sad ind y) :=
  (wordMem_mask 0o24#5 ind y).trans rfl

theorem sas (ind : Bool) (y : BitVec 12) : Statement (.sas ind y) :=
  (wordMem_mask 0o25#5 ind y).trans rfl

theorem mul (ind : Bool) (y : BitVec 12) : Statement (.mul ind y) :=
  (wordMem_mask 0o26#5 ind y).trans rfl

theorem mus (ind : Bool) (y : BitVec 12) : Statement (.mus ind y) :=
  (wordMem_mask 0o26#5 ind y).trans rfl

theorem div (ind : Bool) (y : BitVec 12) : Statement (.div ind y) :=
  (wordMem_mask 0o27#5 ind y).trans rfl

theorem dis (ind : Bool) (y : BitVec 12) : Statement (.dis ind y) :=
  (wordMem_mask 0o27#5 ind y).trans rfl

theorem jmpDismiss (l : BitVec 4) : Statement (.jmpDismiss l) :=
  dismissalY_mask l

theorem jmp (ind : Bool) (y : BitVec 12) : Statement (.jmp ind y) :=
  (wordMem_mask 0o30#5 ind y).trans rfl

theorem jsp (ind : Bool) (y : BitVec 12) : Statement (.jsp ind y) :=
  (wordMem_mask 0o31#5 ind y).trans rfl

theorem skp (b : SkipBits) : Statement (.skp b) :=
  (wordSkip_mask b).trans rfl

theorem ral (code : BitVec 9) : Statement (.ral code) :=
  (wordShift_mask 0o01#4 code).trans rfl

theorem ril (code : BitVec 9) : Statement (.ril code) :=
  (wordShift_mask 0o02#4 code).trans rfl

theorem rcl (code : BitVec 9) : Statement (.rcl code) :=
  (wordShift_mask 0o03#4 code).trans rfl

theorem sal (code : BitVec 9) : Statement (.sal code) :=
  (wordShift_mask 0o05#4 code).trans rfl

theorem sil (code : BitVec 9) : Statement (.sil code) :=
  (wordShift_mask 0o06#4 code).trans rfl

theorem scl (code : BitVec 9) : Statement (.scl code) :=
  (wordShift_mask 0o07#4 code).trans rfl

theorem rar (code : BitVec 9) : Statement (.rar code) :=
  (wordShift_mask 0o11#4 code).trans rfl

theorem rir (code : BitVec 9) : Statement (.rir code) :=
  (wordShift_mask 0o12#4 code).trans rfl

theorem rcr (code : BitVec 9) : Statement (.rcr code) :=
  (wordShift_mask 0o13#4 code).trans rfl

theorem sar (code : BitVec 9) : Statement (.sar code) :=
  (wordShift_mask 0o15#4 code).trans rfl

theorem sir (code : BitVec 9) : Statement (.sir code) :=
  (wordShift_mask 0o16#4 code).trans rfl

theorem scr (code : BitVec 9) : Statement (.scr code) :=
  (wordShift_mask 0o17#4 code).trans rfl

theorem sftUndef00 (code : BitVec 9) : Statement (.sftUndef00 code) :=
  (wordShift_mask 0o00#4 code).trans rfl

theorem sftUndef04 (code : BitVec 9) : Statement (.sftUndef04 code) :=
  (wordShift_mask 0o04#4 code).trans rfl

theorem sftUndef10 (code : BitVec 9) : Statement (.sftUndef10 code) :=
  (wordShift_mask 0o10#4 code).trans rfl

theorem sftUndef14 (code : BitVec 9) : Statement (.sftUndef14 code) :=
  (wordShift_mask 0o14#4 code).trans rfl

theorem law (c : Bool) (n : BitVec 12) : Statement (.law c n) :=
  (wordMem_mask 0o34#5 c n).trans rfl

theorem rngClr (w c : Bool) (sub : BitVec 5) : Statement (.rngClr w c sub) :=
  (wordIot_mask w c sub 0o10#6).trans rfl

theorem rngSet (w c : Bool) (sub : BitVec 5) : Statement (.rngSet w c sub) :=
  (wordIot_mask w c sub 0o11#6).trans rfl

theorem rtb (w c : Bool) (sub : BitVec 5) : Statement (.rtb w c sub) :=
  (wordIot_mask w c sub 0o35#6).trans rfl

theorem dsc (w c : Bool) (sub : BitVec 5) : Statement (.dsc w c sub) :=
  (wordIot_mask w c sub 0o50#6).trans rfl

theorem asc (w c : Bool) (sub : BitVec 5) : Statement (.asc w c sub) :=
  (wordIot_mask w c sub 0o51#6).trans rfl

theorem isb (w c : Bool) (sub : BitVec 5) : Statement (.isb w c sub) :=
  (wordIot_mask w c sub 0o52#6).trans rfl

theorem cac (w c : Bool) (sub : BitVec 5) : Statement (.cac w c sub) :=
  (wordIot_mask w c sub 0o53#6).trans rfl

theorem lsm (w c : Bool) (sub : BitVec 5) : Statement (.lsm w c sub) :=
  (wordIot_mask w c sub 0o54#6).trans rfl

theorem esm (w c : Bool) (sub : BitVec 5) : Statement (.esm w c sub) :=
  (wordIot_mask w c sub 0o55#6).trans rfl

theorem cbs (w c : Bool) (sub : BitVec 5) : Statement (.cbs w c sub) :=
  (wordIot_mask w c sub 0o56#6).trans rfl

theorem lrm (w c : Bool) (sub : BitVec 5) : Statement (.lrm w c sub) :=
  (wordIot_mask w c sub 0o64#6).trans rfl

theorem erm (w c : Bool) (sub : BitVec 5) : Statement (.erm w c sub) :=
  (wordIot_mask w c sub 0o65#6).trans rfl

theorem rnm (w c : Bool) (sub : BitVec 5) : Statement (.rnm w c sub) :=
  (wordIot_mask w c sub 0o66#6).trans rfl

theorem rsm (w c : Bool) (sub : BitVec 5) : Statement (.rsm w c sub) :=
  (wordIot_mask w c sub 0o67#6).trans rfl

theorem lem (w : Bool) (sub : BitVec 5) : Statement (.lem w sub) :=
  (wordIot_mask_completion w false sub 0o74#6).trans rfl

theorem eem (w : Bool) (sub : BitVec 5) : Statement (.eem w sub) :=
  (wordIot_mask_completion w true sub 0o74#6).trans rfl

theorem iot (w c : Bool) (sub : BitVec 5) (dev : BitVec 6) : Statement (.iot w c sub dev) :=
  (wordIot_mask_opcode w c sub dev).trans rfl

theorem spc (bits : BitVec 13) : Statement (.spc bits) :=
  (wordRest_mask 0o36#5 bits).trans rfl

theorem opr (b : OprBits) : Statement (.opr b) :=
  (wordOpr_mask b).trans rfl

end Sys2Proof.Laws.RowBits
end

