-- ==== Sys2Proof/Tests/Slice0.lean ====
section
/-! SUPPORT. The model's own tests: ill-formed terms, decoded words, one step of each instruction, and for each
statement of the certificate a state that meets its hypotheses. Expected results come from `30_encoding.md`,
`95_test_vectors.md` and the examples inside the rules. -/

namespace Sys2Proof.Tests

open Sys2Proof.Machine

/-! ### WellFormed refuses an ill-formed term at each check -/

theorem test_wf_jmp_dismissal_pattern : wellFormed true (.jmp true 0o11#12) = false := by decide
theorem test_wf_jmp_direct : wellFormed true (.jmp false 0o11#12) = true := by decide
theorem test_wf_iot_core_device : coreDevices.all (fun d => !wellFormed true (.iot false false 0#5 d)) = true := by
  decide
theorem test_wf_iot_external_device : wellFormed true (.iot false false 0#5 3#6) = true := by decide
theorem test_wf_mul_without_option : wellFormed false (.mul false 0#12) = false := by decide
theorem test_wf_mus_with_option : wellFormed true (.mus false 0#12) = false := by decide
theorem test_wf_div_without_option : wellFormed false (.div false 0#12) = false := by decide
theorem test_wf_dis_with_option : wellFormed true (.dis false 0#12) = false := by decide

/-! ### Decoding: a word of every row, written from the formats of `30_encoding.md` and the rules' examples -/

/-- R72, memory reference: op, I, Y. -/
theorem test_decode_logical :
    decodeTableWord 18 0o020100 = some (.and false 0o100#12) ∧ decodeTableWord 18 0o040100 = some (.ior false 0o100#12) ∧
    decodeTableWord 18 0o070100 = some (.xor true 0o100#12) ∧ decodeTableWord 18 0o100200 = some (.xct false 0o200#12) := by
  decide

/-- R92, R93, R95, R96. -/
theorem test_decode_character_and_call :
    decodeTableWord 18 0o120100 = some (.lch false 0o100#12) ∧ decodeTableWord 18 0o150100 = some (.dch true 0o100#12) ∧
    decodeTableWord 18 0o160555 = some (.cal 0o555#12) ∧ decodeTableWord 18 0o170300 = some (.jda 0o300#12) := by
  decide

/-- R97 to R103. -/
theorem test_decode_load_store :
    decodeTableWord 18 0o210300 = some (.lac true 0o300#12) ∧ decodeTableWord 18 0o220101 = some (.lio false 0o101#12) ∧
    decodeTableWord 18 0o240100 = some (.dac false 0o100#12) ∧ decodeTableWord 18 0o260100 = some (.dap false 0o100#12) ∧
    decodeTableWord 18 0o300100 = some (.dip false 0o100#12) ∧ decodeTableWord 18 0o320102 = some (.dio false 0o102#12) ∧
    decodeTableWord 18 0o340103 = some (.dzm false 0o103#12) := by
  decide

/-- R105 to R111. -/
theorem test_decode_arith :
    decodeTableWord 18 0o360100 = some (.tad false 0o100#12) ∧ decodeTableWord 18 0o400100 = some (.add false 0o100#12) ∧
    decodeTableWord 18 0o420100 = some (.sub false 0o100#12) ∧ decodeTableWord 18 0o440100 = some (.idx false 0o100#12) ∧
    decodeTableWord 18 0o460100 = some (.isp false 0o100#12) ∧ decodeTableWord 18 0o500100 = some (.sad false 0o100#12) ∧
    decodeTableWord 18 0o530100 = some (.sas true 0o100#12) := by
  decide

/-- R112 to R115: the strap chooses between the two rows of a word. -/
theorem test_decode_multiply_divide :
    decodeTableWord 18 0o540100 = some (.mul false 0o100#12) ∧ decodeTableWord 18 0o560100 = some (.div false 0o100#12) ∧
    decode false 0o540100#18 = .mus false 0o100#12 ∧ decode false 0o560100#18 = .dis false 0o100#12 := by
  decide

/-- R120 to R123. -/
theorem test_decode_jump_law :
    decodeTableWord 18 0o600101 = some (.jmp false 0o101#12) ∧ decodeTableWord 18 0o610300 = some (.jmp true 0o300#12) ∧
    decodeTableWord 18 0o610011 = some (.jmpDismiss 2#4) ∧ decodeTableWord 18 0o610075 = some (.jmpDismiss 15#4) ∧
    decodeTableWord 18 0o620200 = some (.jsp false 0o200#12) ∧ decodeTableWord 18 0o700005 = some (.law false 5#12) ∧
    decodeTableWord 18 0o717777 = some (.law true 0o7777#12) := by
  decide

/-- R73, R128: `szo i` is 651000, `szs 20` 640020, `szf 3` 640003. -/
theorem test_decode_skip :
    decodeTableWord 18 0o651000 = some (.skp ⟨true, false, false, true, false, false, false, 0#3, 0#3⟩) ∧
    decodeTableWord 18 0o640023 = some (.skp ⟨false, false, false, false, false, false, false, 2#3, 3#3⟩) ∧
    decodeTableWord 18 0o646700 = some (.skp ⟨false, true, true, false, true, true, true, 0#3, 0#3⟩) := by
  decide

/-- R74, R144. -/
theorem test_decode_shift :
    decodeTableWord 18 0o661001 = some (.ral 1#9) ∧ decodeTableWord 18 0o662001 = some (.ril 1#9) ∧
    decodeTableWord 18 0o663777 = some (.rcl 0o777#9) ∧ decodeTableWord 18 0o665001 = some (.sal 1#9) ∧
    decodeTableWord 18 0o666007 = some (.sil 7#9) ∧ decodeTableWord 18 0o667001 = some (.scl 1#9) ∧
    decodeTableWord 18 0o671001 = some (.rar 1#9) ∧ decodeTableWord 18 0o672001 = some (.rir 1#9) ∧
    decodeTableWord 18 0o673001 = some (.rcr 1#9) ∧ decodeTableWord 18 0o675001 = some (.sar 1#9) ∧
    decodeTableWord 18 0o676001 = some (.sir 1#9) ∧ decodeTableWord 18 0o677001 = some (.scr 1#9) := by
  decide

/-- R80: opcode 000 and the four shift sub-opcodes that select no register. -/
theorem test_decode_undefined :
    decodeTableWord 18 0o000123 = some (.undef0 0o123#13) ∧ decodeTableWord 18 0o660001 = some (.sftUndef00 1#9) ∧
    decodeTableWord 18 0o664002 = some (.sftUndef04 2#9) ∧ decodeTableWord 18 0o670003 = some (.sftUndef10 3#9) ∧
    decodeTableWord 18 0o674004 = some (.sftUndef14 4#9) := by
  decide

/-- R76, R156 to R168: `dsc 3` is 720350 and so on. -/
theorem test_decode_pulses :
    decodeTableWord 18 0o720010 = some (.rngClr false false 0#5) ∧ decodeTableWord 18 0o720011 = some (.rngSet false false 0#5) ∧
    decodeTableWord 18 0o720035 = some (.rtb false false 0#5) ∧ decodeTableWord 18 0o720350 = some (.dsc false false 3#5) ∧
    decodeTableWord 18 0o720251 = some (.asc false false 2#5) ∧ decodeTableWord 18 0o721752 = some (.isb false false 15#5) ∧
    decodeTableWord 18 0o720053 = some (.cac false false 0#5) ∧ decodeTableWord 18 0o720054 = some (.lsm false false 0#5) ∧
    decodeTableWord 18 0o720055 = some (.esm false false 0#5) ∧ decodeTableWord 18 0o720056 = some (.cbs false false 0#5) ∧
    decodeTableWord 18 0o720064 = some (.lrm false false 0#5) ∧ decodeTableWord 18 0o720065 = some (.erm false false 0#5) ∧
    decodeTableWord 18 0o720066 = some (.rnm false false 0#5) ∧ decodeTableWord 18 0o720067 = some (.rsm false false 0#5) ∧
    decodeTableWord 18 0o720074 = some (.lem false 0#5) ∧ decodeTableWord 18 0o724074 = some (.eem false 0#5) := by
  decide

/-- R76: an external device with the wait bit, with the completion bit, with a sub-opcode. -/
theorem test_decode_iot :
    decodeTableWord 18 0o720003 = some (.iot false false 0#5 3#6) ∧ decodeTableWord 18 0o730001 = some (.iot true false 0#5 1#6) ∧
    decodeTableWord 18 0o724130 = some (.iot false true 1#5 0o30#6) := by
  decide

/-- R77, R78: `cla lat cma` is 763200, `cla hlt` 760600, `swp` 760060, `stf 7` 760017. -/
theorem test_decode_operate :
    decodeTableWord 18 0o763200 = some (.opr ⟨false, false, true, true, false, true, false, false, false, false, 0#3⟩) ∧
    decodeTableWord 18 0o760600 = some (.opr ⟨false, false, false, false, true, true, false, false, false, false, 0#3⟩) ∧
    decodeTableWord 18 0o760077 = some (.opr ⟨false, false, false, false, false, false, false, true, true, true, 7#3⟩) ∧
    decodeTableWord 18 0o774100 = some (.opr ⟨true, true, false, false, false, false, true, false, false, false, 0#3⟩) ∧
    decodeTableWord 18 0o740007 = some (.spc 7#13) := by
  decide

theorem test_decode_rejects_what_is_no_word : decodeTableWord 19 0o1000000 = none := by decide

theorem test_encode_words : encode (.lac true 0o300#12) = 0o210300#18 ∧ encode (.jmpDismiss 15#4) = 0o610075#18 ∧
    encode (.eem false 0#5) = 0o724074#18 ∧ encode (.asc false false 2#5) = 0o720251#18 := by decide

/-- R7, R182: the straps of the reset state meet their constraints. -/
theorem test_straps_at_reset : strapsAtReset.wf = true ∧ strapsAtReset.memsize = 65536 := by decide

/-! ### One step of each instruction -/

/-- A running machine at 0200 with the fullest straps, the given memory and AC and IO. -/
def machine (m : Memory) (ac io : Word) : State :=
  { State.reset with run := .running, pc := 0o200#16, mem := m, ac := ac, io := io }

/-- The next state of an outcome; the reset state where there is none. -/
def nextState (o : Host.Outcome State Fault Refusal) : State :=
  match o with
  | .next t => t
  | _ => State.reset

/-- The state after one step that runs the word `w`. -/
def after (s : State) (w : Nat) : State := nextState (step (s.withFetchWord 18 w))

/-- R86 to R88, their examples. -/
theorem test_logical :
    (after (machine [(0o100, 0o070707#18)] 0o707070#18 0#18) 0o020100).ac = 0#18 ∧
    (after (machine [(0o100, 0o070707#18)] 0o707070#18 0#18) 0o040100).ac = 0o777777#18 ∧
    (after (machine [(0o100, 0o777777#18)] 0o707070#18 0#18) 0o060100).ac = 0o070707#18 := by decide

/-- R89, its example; section 2.2 of the vectors: a skip through XCT, and an XCT of itself. -/
theorem test_xct :
    (after (machine [(0o300, 0o760200#18)] 5#18 0#18) 0o100300).ac = 0#18 ∧
    (after (machine [(0o300, 0o640200#18)] 5#18 0#18) 0o100300).pc = 0o202#16 := by decide

theorem test_xct_of_itself :
    (after (machine [] 0#18 0#18) 0o100200).run = .stopped (some .xct) ∧
    (after (machine [] 0#18 0#18) 0o100200).xctCount = 16 := by decide

/-- R92, R93, their examples. -/
theorem test_character :
    (after (machine [(0o100, 0o400300#18), (0o300, 0o112233#18)] 0#18 0#18) 0o120100).ac = 0o220000#18 ∧
    (after (machine [(0o100, 0o600300#18), (0o300, 0o112233#18)] 0o450000#18 0#18) 0o140100).word 0o300#16
      = 0o112245#18 := by decide

/-- R90, R91, R94: position 3 with automatic increment goes to position 1 of the next word. -/
theorem test_character_increment :
    let t := after (machine [(0o100, 0o600277#18), (0o300, 0o112233#18)] 0#18 0#18) 0o130100
    t.ac = 0o110000#18 ∧ t.word 0o100#16 = 0o200300#18 := by decide

/-- R95, R96, their examples. -/
theorem test_calls :
    let t := after (machine [] 0o123456#18 0#18) 0o160000
    let u := after { machine [] 5#18 0#18 with ov := true } 0o170300
    t.word 0o100#16 = 0o123456#18 ∧ t.ac = 0o201#18 ∧ t.pc = 0o101#16 ∧
    u.word 0o300#16 = 5#18 ∧ u.ac = 0o400201#18 ∧ u.pc = 0o301#16 := by decide

/-- R97, R98, their examples. -/
theorem test_loads :
    (after (machine [(0o100, 0o777777#18)] 0#18 0#18) 0o200100).ac = 0o777777#18 ∧
    (after (machine [(0o101, 0o42#18)] 0#18 0#18) 0o220101).io = 0o42#18 := by decide

/-- R99 to R103, their examples. -/
theorem test_stores :
    (after (machine [] 0o123456#18 0#18) 0o240100).word 0o100#16 = 0o123456#18 ∧
    (after (machine [(0o100, 0o777777#18)] 0o123456#18 0#18) 0o260100).word 0o100#16 = 0o777756#18 ∧
    (after (machine [] 0o123456#18 0#18) 0o300100).word 0o100#16 = 0o123400#18 ∧
    (after (machine [] 0#18 0o42#18) 0o320102).word 0o102#16 = 0o42#18 ∧
    (after (machine [(0o103, 0o777777#18)] 0#18 0#18) 0o340103).word 0o103#16 = 0#18 := by decide

/-- R100 with the other width. -/
theorem test_dap_twelve :
    (after { machine [(0o100, 0o777777#18)] 0o123456#18 0#18 with straps := { strapsAtReset with dapWidth := .twelve } }
      0o260100).word 0o100#16 = 0o773456#18 := by decide

/-- R105: the carry goes to the link (section 2.5 of the vectors). -/
theorem test_tad :
    (after { machine [(0o100, 1#18)] 0o777777#18 0#18 with pf := 0o25#8 } 0o360100).ac = 0#18 ∧
    (after { machine [(0o100, 1#18)] 0o777777#18 0#18 with pf := 0o25#8 } 0o360100).pf = 0o225#8 := by decide

/-- R106: section 2.5 of the vectors. -/
theorem test_add :
    (after (machine [(0o100, 0o400001#18)] 0o377777#18 0#18) 0o400100).ac = 1#18 ∧
    (after (machine [(0o100, 0o400001#18)] 0o377777#18 0#18) 0o400100).ov = false ∧
    (after (machine [(0o100, 1#18)] 0o377777#18 0#18) 0o400100).ov = true ∧
    (after (machine [(0o100, 0o777777#18)] 0#18 0#18) 0o400100).ac = 0#18 := by decide

/-- R107: section 2.5 of the vectors. -/
theorem test_sub :
    (after (machine [(0o100, 7#18)] 5#18 0#18) 0o420100).ac = 0o777775#18 ∧
    (after (machine [] 0o777777#18 0#18) 0o420100).ac = 0o777777#18 ∧
    (after (machine [(0o100, 1#18)] 0o400000#18 0#18) 0o420100).ov = true := by decide

/-- R108, R109: section 2.5 of the vectors. -/
theorem test_index :
    (after (machine [(0o100, 7#18)] 0#18 0#18) 0o440100).word 0o100#16 = 0o10#18 ∧
    (after (machine [(0o100, 0o777776#18)] 5#18 0#18) 0o460100).ac = 0#18 ∧
    (after (machine [(0o100, 0o777776#18)] 5#18 0#18) 0o460100).pc = 0o202#16 ∧
    (after (machine [(0o100, 0o377777#18)] 5#18 0#18) 0o460100).pc = 0o201#16 := by decide

/-- R110, R111, their examples. -/
theorem test_compare :
    (after (machine [(0o100, 6#18)] 5#18 0#18) 0o500100).pc = 0o202#16 ∧
    (after (machine [(0o100, 6#18)] 5#18 0#18) 0o520100).pc = 0o201#16 ∧
    (after (machine [(0o100, 5#18)] 5#18 0#18) 0o500100).pc = 0o201#16 ∧
    (after (machine [(0o100, 5#18)] 5#18 0#18) 0o520100).pc = 0o202#16 := by decide

/-- R112, R114: section 2.6 of the vectors. -/
theorem test_multiply_divide :
    (after (machine [(0o100, 5#18)] 0o777774#18 0#18) 0o540100).io = 0o777741#18 ∧
    (after (machine [(0o100, 0o377777#18)] 0o377777#18 0#18) 0o540100).ac = 0o377776#18 ∧
    (after (machine [(0o100, 5#18)] 0o777777#18 0o777735#18) 0o560100).ac = 0o777774#18 ∧
    (after (machine [(0o100, 5#18)] 0o777777#18 0o777735#18) 0o560100).io = 0o777775#18 ∧
    (after (machine [(0o100, 5#18)] 0#18 0o40#18) 0o560100).pc = 0o202#16 ∧
    (after (machine [(0o100, 5#18)] 5#18 0#18) 0o560100).pc = 0o201#16 := by decide

/-- R113, R115, their examples. -/
theorem test_steps :
    let m := { strapsAtReset with mdv := false }
    let t := after { machine [(0o100, 5#18)] 0#18 3#18 with straps := m } 0o540100
    let u := after { machine [(0o100, 5#18)] 0#18 0o40#18 with straps := m } 0o560100
    t.ac = 2#18 ∧ t.io = 0o400001#18 ∧ u.ac = 0o777772#18 ∧ u.io = 0o101#18 := by decide

/-- R60: section 2.1 of the vectors: a chain in field 2, and the extend-mode reference. -/
theorem test_indirect :
    (after { machine [(0o20300, 0o644321#18), (0o24321, 0o55#18)] 0#18 0#18 with pc := 0o20200#16 } 0o210300).ac = 0o55#18 ∧
    (after { machine [(0o20300, 0o654321#18), (0o54321, 0o66#18)] 0#18 0#18 with pc := 0o20200#16, extm := true }
      0o210300).ac = 0o66#18 := by decide

/-- R60: a cell that points at itself. -/
theorem test_indirect_stop :
    (after (machine [(0o300, 0o010300#18)] 7#18 0#18) 0o210300).run = .stopped (some .ind) ∧
    (after (machine [(0o300, 0o010300#18)] 7#18 0#18) 0o210300).pc = 0o201#16 := by decide

/-- R120, R122: section 2.7 of the vectors; PC wraps inside its field. -/
theorem test_jumps :
    (after (machine [] 0#18 0#18) 0o600101).pc = 0o101#16 ∧
    (after { machine [] 0#18 0#18 with pc := 0o37777#16, ov := true, extm := true } 0o620300).ac = 0o630000#18 ∧
    (after { machine [] 0#18 0#18 with pc := 0o37777#16, ov := true, extm := true } 0o620300).pc = 0o30300#16 := by
  decide

/-- R121, its example, and the same word where breaks are off (section 2.7 of the vectors). -/
theorem test_dismissal :
    let s := { machine [(0o11, 0o200105#18)] 0#18 0#18 with sbs := ⟨true, false, false⟩, sbsAct := 4#16 }
    (after s 0o610011).sbsAct = 0#16 ∧ (after s 0o610011).extm = true ∧ (after s 0o610011).pc = 0o105#16 ∧
    (after { s with sbs := ⟨false, false, false⟩ } 0o610011).sbsAct = 4#16 ∧
    (after { s with sbs := ⟨false, false, false⟩ } 0o610011).extm = false := by decide

/-- R123: section 2.7 of the vectors. -/
theorem test_law : (after (machine [] 0#18 0#18) 0o710005).ac = 0o777772#18 ∧
    (after (machine [] 0#18 0#18) 0o700005).ac = 5#18 := by decide

/-- R128, its examples: AC = 0, IO negative, OV set. -/
theorem test_skips :
    let s := { machine [] 0#18 0o400000#18 with ov := true }
    (after s 0o640100).pc = 0o202#16 ∧ (after s 0o642000).pc = 0o201#16 ∧ (after s 0o641000).pc = 0o201#16 ∧
    (after s 0o641000).ov = false ∧ (after s 0o650100).pc = 0o201#16 := by decide

/-- R132 to R134, R138 to R140, their examples. -/
theorem test_rotates :
    (after (machine [] 1#18 0#18) 0o671001).ac = 0o400000#18 ∧ (after (machine [] 0#18 3#18) 0o672001).io = 0o400001#18 ∧
    (after (machine [] 0o123456#18 0o654321#18) 0o663777).ac = 0o456654#18 ∧
    (after (machine [] 0o123456#18 0o654321#18) 0o663777).io = 0o321123#18 ∧
    (after (machine [] 1#18 2#18) 0o673001).io = 0o400001#18 ∧
    (after (machine [] 0o400000#18 0#18) 0o661001).ac = 1#18 ∧
    (after (machine [] 0#18 0o400001#18) 0o662001).io = 3#18 := by decide

/-- R135 to R137, R141 to R143, their examples. -/
theorem test_shifts :
    (after (machine [] 0o777775#18 0#18) 0o665001).ac = 0o777773#18 ∧ (after (machine [] 0#18 5#18) 0o666007).io = 0o50#18 ∧
    (after (machine [] 0#18 0o400000#18) 0o667001).ac = 1#18 ∧ (after (machine [] 0#18 0o400000#18) 0o667001).io = 0#18 ∧
    (after (machine [] 0o400000#18 0#18) 0o675001).ac = 0o600000#18 ∧
    (after (machine [] 0#18 0o400000#18) 0o676001).io = 0o600000#18 ∧
    (after (machine [] 0o400001#18 0#18) 0o677001).io = 0o400000#18 := by decide

/-- R184: an undefined instruction with `stop_inst` and without. -/
theorem test_undefined :
    let s := machine [] 5#18 0#18
    let u := { s with straps := { strapsAtReset with stopInst := false } }
    (after s 0o000000).run = .stopped (some .rsrv) ∧ (after s 0o664000).pc = 0o201#16 ∧
    (after u 0o660000).run = .running ∧ (after u 0o670000).ac = 5#18 ∧ (after u 0o674000).run = .running := by
  decide

/-- R145, R146, their examples. -/
theorem test_operate :
    (after { machine [] 0o123456#18 0#18 with tw := 0o77#18 } 0o763200).ac = 0o777700#18 ∧
    (after (machine [] 0o123456#18 0o654321#18) 0o760060).ac = 0o654321#18 ∧
    (after (machine [] 0o123456#18 0o654321#18) 0o760060).io = 0o123456#18 ∧
    (after (machine [] 5#18 0#18) 0o760600).run = .stopped (some .halt) ∧
    (after (machine [] 5#18 0#18) 0o760600).ac = 0#18 ∧ (after (machine [] 0#18 0#18) 0o760017).pf = 0o77#8 := by
  decide

/-- R147: the word with no micro-operation. -/
theorem test_special_operate : (after (machine [] 5#18 6#18) 0o740000).ac = 5#18 := by decide

/-- R151, its example: device 003 answers with IO unchanged. -/
theorem test_iot :
    let s := { machine [] 0#18 5#18 with answers := [⟨true, 5#18, false, none, false, []⟩] }
    (after s 0o720003).io = 5#18 ∧ (after s 0o720003).pc = 0o201#16 ∧
    (after s 0o720003).lastCall = some ⟨0o720003#18, 3#6, 5#18⟩ := by decide

/-- R184, C10: an absent device with the wait bit, and RTB with it where there is no PDP-1D option: PC stays past the
word and the latch clear. -/
theorem test_iot_undefined_with_wait :
    let s := { machine [] 0#18 5#18 with answers := [⟨false, 0#18, false, none, false, []⟩] }
    let u := { machine [] 0#18 5#18 with straps := { strapsAtReset with opt1d := false, stopInst := false } }
    (after s 0o730003).pc = 0o201#16 ∧ (after s 0o730003).ioh = false ∧
    (after s 0o730003).run = .stopped (some .rsrv) ∧ (after u 0o730035).pc = 0o201#16 ∧ (after u 0o730035).ioh = false := by
  decide

/-- R211, R7: a reset samples the unit flag, a start does not; an `ind_max` of 0 is not taken. -/
theorem test_console_straps :
    let s := { State.reset with unitSbs16 := false, console := [.reset] }
    (nextState (step s)).straps.sbs16 = false ∧
    (nextState (step { s with console := [.start 0#16] })).straps.sbs16 = true ∧
    (nextState (step { s with console := [.limits 0 0] })).straps.indMax = 16 ∧
    (nextState (step { s with console := [.limits 1 0] })).straps.indMax = 1 := by decide

/-- R152: the first issue waits at the IOT, the device owing a completion. -/
theorem test_iot_wait :
    let s := { machine [] 0#18 5#18 with answers := [⟨true, 5#18, false, none, true, []⟩] }
    (after s 0o730003).pc = 0o200#16 ∧ (after s 0o730003).ioh = true ∧ (after s 0o730003).cpls = [3#6] := by
  decide

/-- R156 to R159. -/
theorem test_channel_pulses :
    let s := { machine [] 0#18 0#18 with sbsEnb := 0o10#16 }
    (after s 0o720350).sbsEnb = 0#16 ∧ (after s 0o720251).sbsEnb = 0o14#16 ∧ (after s 0o720053).sbsEnb = 0#16 ∧
    (after s 0o721752).sbsReq = 0x8000#16 ∧ (after s 0o721752).sbsLvl = 16#5 := by decide

/-- R160, R164 to R166. -/
theorem test_mode_pulses :
    let s := { machine [] 0#18 0#18 with sbs := ⟨false, true, true⟩ }
    (after s 0o724074).extm = true ∧ (after { s with extm := true } 0o720074).extm = false ∧
    (after s 0o720055).sbs.on = true ∧ (after { s with sbs := ⟨true, false, false⟩ } 0o720054).sbs.on = false ∧
    (after s 0o720056).sbs = ⟨false, false, false⟩ := by decide

/-- R161 to R163, R167, R168. -/
theorem test_restrict_pulses :
    let s := machine [] 0#18 0o200000#18
    (after s 0o720065).rm = true ∧ (after s 0o720065).rmask = 0o200000#18 ∧
    (after { s with rm := true, sbsAct := 1#16 } 0o720064).rm = false ∧
    (after { s with rtb := 0o123#18 } 0o720035).io = 0o123#18 ∧ (after s 0o720011).pf = 0o100#8 ∧
    (after { s with pf := 0o177#8 } 0o720010).pf = 0o77#8 ∧ (after s 0o720067).rname = .identity := by decide

/-- R163: pulse 066 is refused. -/
theorem test_rename_pulse_is_refused :
    step ((machine [] 0#18 0#18).withFetchWord 18 0o720066) = .refused .renameTable := by rfl

/-- R177, its example. -/
theorem test_interrupt_entry :
    let s := { machine [] 0o12#18 0o34#18 with
      sbs := ⟨true, false, false⟩, sbsReq := 4#16, sbsLvl := 3#5, ov := true, extm := true, pc := 0o40567#16 }
    let t := nextState (step s)
    t.word 0o10#16 = 0o12#18 ∧ t.word 0o11#16 = 0o640567#18 ∧ t.word 0o12#16 = 0o34#18 ∧ t.pc = 0o13#16 ∧
    t.sbsReq = 0#16 ∧ t.sbsAct = 4#16 ∧ t.ov = false ∧ t.extm = false := by decide

/-- R182, R183: a store to a denied bank is a request on level 14, with the data's low bits in the trap buffer. -/
theorem test_trap :
    let s := { machine [(0o300, 0o10000#18)] 0o123456#18 0#18 with rm := true, rmask := 0o200000#18, extm := true }
    (after s 0o250300).sbsReq = 0x4000#16 ∧ (after s 0o250300).rtb = 0o23456#18 ∧ (after s 0o250300).run = .running := by
  decide

/-! ### Witnesses: states and operands that meet the hypotheses of the statements, clause by clause -/

/-- Whether an operation went through and left a state with `p`. -/
def okWith (r : Res) (p : State → Bool) : Bool :=
  match r with
  | .ok t => p t
  | _ => false

def traps (r : Res) : Bool :=
  match r with
  | .trap _ => true
  | _ => false

def stops (r : Res) : Bool :=
  match r with
  | .stop _ _ => true
  | _ => false

def goesOn (o : Host.Outcome State Fault Refusal) : Bool :=
  match o with
  | .next _ => true
  | _ => false

/-- Restricted at 010200, field 1, with bank 0 denied; the cell 0300 of the field points into bank 0. -/
def fenced : State :=
  { machine [(0o10300, 0o000077#18), (0o10301, 0o010301#18), (0o10302, 0o000400#18)] 5#18 6#18 with
    pc := 0o10200#16, rm := true, rmask := 0o400000#18 }

/-- The same with bank 1, the field of PC, denied. -/
def caged : State := { fenced with rmask := 0o200000#18 }

/-- The cases of a memory reference: a direct operand at the last word of the field, an indirect one, a denied
operand, a denied indirect word, a chain without end. -/
def memoryReferenceCases : Bool :=
  okWith (ea false 0o7777#12 fenced) (fun t => !violation t t.ma) &&
  okWith (ea true 0o302#12 fenced) (fun t => !violation t t.ma) &&
  okWith (ea true 0o300#12 { fenced with extm := true }) (fun t => violation t t.ma) &&
  traps (ea true 0o300#12 caged) && stops (ea true 0o301#12 fenced)

theorem witness_LogicalResults : memoryReferenceCases = true := by decide
theorem witness_LoadResults : memoryReferenceCases = true := witness_LogicalResults
theorem witness_StoreResults : memoryReferenceCases = true := witness_LogicalResults
theorem witness_PartialStoreResults : memoryReferenceCases = true ∧
    lowMask .six = 0o77#18 ∧ lowMask .twelve = 0o7777#18 := ⟨witness_LogicalResults, rfl, rfl⟩
theorem witness_TadResult : memoryReferenceCases = true ∧ fenced.straps.opt1d = true := ⟨witness_LogicalResults, rfl⟩
theorem witness_AddResult : memoryReferenceCases = true := witness_LogicalResults
theorem witness_SubResult : memoryReferenceCases = true := witness_LogicalResults
theorem witness_IndexResults : memoryReferenceCases = true := witness_LogicalResults
theorem witness_CompareResults : memoryReferenceCases = true := witness_LogicalResults
theorem witness_MulIsExactProduct : memoryReferenceCases = true := witness_LogicalResults
theorem witness_StepResults : memoryReferenceCases = true := witness_LogicalResults
theorem witness_JspResult : memoryReferenceCases = true := witness_LogicalResults

/-- Both cases of the divide: dividend and divisor of the same magnitude, and the least larger divisor. -/
theorem witness_DivIsDivision : memoryReferenceCases = true ∧
    okWith (ea false 0o100#12 (machine [(0o100, 5#18)] 5#18 0#18)) (fun t => absOf (t.word t.ma) ≤ absOf t.ac) = true ∧
    okWith (ea false 0o100#12 (machine [(0o100, 6#18)] 5#18 0#18)) (fun t => absOf t.ac < absOf (t.word t.ma)) = true := by
  decide

theorem witness_JumpResults : memoryReferenceCases = true ∧
    (machine [] 0#18 0#18).sbs.on = false ∧ fenced.pc &&& 0o170000#16 ≠ 0#16 ∧
    (∃ s : State, s.straps.sbs16 = false ∧ s.sbs.on = true ∧ s.pc &&& 0o170000#16 = 0#16) :=
  ⟨witness_LogicalResults, rfl, by decide,
    { machine [] 0#18 0#18 with straps := { strapsAtReset with sbs16 := false }, sbs := ⟨true, false, false⟩ },
    rfl, rfl, by decide⟩

theorem witness_DecodeOfEncode : wellFormed true (.jmp true 0o7777#12) = true ∧ wellFormed false (.mus true 0#12) = true ∧
    wellFormed true (.iot true true 31#5 0o77#6) = true := by decide

theorem witness_StepRunsTheFetchedInstruction :
    let s := { machine [] 0#18 0#18 with pc := 0o7777#16 }
    s.run = .running ∧ (nextHook s).stop = none ∧ admissible (runHook s) = false ∧
      (nextHook s).breakpoint = false ∧ violation (runHook s) (runHook s).pc = false := by decide

theorem witness_FetchViolationIsRedirected :
    caged.run = .running ∧ (nextHook caged).stop = none ∧ admissible (runHook caged) = false ∧
      (nextHook caged).breakpoint = false ∧ violation (runHook caged) (runHook caged).pc = true := by decide

/-- Levels 0 and 15, and the 1-channel configuration. -/
theorem witness_InterruptEntry :
    let a := { machine [] 0#18 0#18 with sbs := ⟨true, false, false⟩, sbsReq := 1#16 }
    let b := { machine [] 0#18 0#18 with sbs := ⟨true, false, false⟩, sbsReq := 0x8000#16 }
    let c := { machine [] 0#18 0#18 with sbs := ⟨true, true, false⟩, straps := { strapsAtReset with sbs16 := false } }
    admissible (runHook a) = true ∧ pendingLevel (runHook a) = 0#4 ∧ admissible (runHook b) = true ∧
      pendingLevel (runHook b) = 15#4 ∧ a.straps.sbs16 = true ∧ a.run = .running ∧ (nextHook a).stop = none ∧
      admissible (runHook c) = true ∧ c.rm = false ∧ c.straps.sbs16 = false := by decide

theorem witness_ForcedStopAndBreakpoint :
    let a := { machine [] 0#18 0#18 with hooks := [⟨[], some 0, false⟩] }
    let b := { machine [] 0#18 0#18 with hooks := [⟨[], none, true⟩] }
    let c := { b with sbs := ⟨true, false, false⟩, sbsReq := 1#16 }
    (nextHook a).stop = some 0 ∧ (nextHook b).stop = none ∧ admissible (runHook b) = false ∧
      (nextHook b).breakpoint = true ∧ b.run = .running ∧ (nextHook c).stop = none ∧ admissible (runHook c) = true ∧
      (nextHook c).breakpoint = true := by decide

/-- The clauses on the hook: nothing listed, no action, an action; a DMA write at the last word of a small memory and at
the first absent one; a completion by a device that owes one. -/
theorem witness_ForcedStopAndBreakpoint_hook :
    let s := { machine [] 0#18 0#18 with straps := { strapsAtReset with topField := 0 }, cpls := [0#6, 63#6] }
    let u := { s with hooks := [⟨[.port (.dmaWrite 0o7777#16 5#18), .port (.complete 63#6)], none, false⟩] }
    s.hooks = [] ∧ u.hooks = ⟨[.port (.dmaWrite 0o7777#16 5#18), .port (.complete 63#6)], none, false⟩ :: [] ∧
    s.mem.wf = true ∧ (0o7777#16 : Addr).toNat < s.straps.memsize ∧ s.straps.memsize ≤ (0o10000#16 : Addr).toNat ∧
    (runHook u).word 0o7777#16 = 5#18 ∧ s.cpls.Nodup ∧ (runHook u).cpls = [0#6] ∧ (runHook u).ios = true := by decide

theorem witness_BreakRequestPort :
    let a := { State.reset with sbsEnb := 0x8000#16 }
    let b := { State.reset with straps := { strapsAtReset with sbs16 := false } }
    a.straps.sbs16 = true ∧ a.sbsEnb.getLsbD 15 = true ∧ a.sbsEnb.getLsbD 0 = false ∧ b.straps.sbs16 = false := by decide

theorem witness_StoppedMachine :
    let next := fun c => nextState (step { State.reset with console := [c], unitSbs16 := false })
    State.reset.run = .stopped none ∧ State.reset.console = [] ∧
    (next (.start 0o177777#16)).pc = 0o177777#16 ∧ (next .resume).run = .running ∧ (next .reset).straps.sbs16 = false ∧
    (next (.setPc 0o177777#16)).pc = 0o177777#16 ∧ (next (.deposit 0o177777#16 5#18)).word 0o177777#16 = 5#18 ∧
    (next (.setAc 5#18)).ac = 5#18 ∧ (next (.setIo 5#18)).io = 5#18 ∧ (next (.senseSwitches 0o77#6)).ss = 0o77#6 ∧
    (next (.testWord 5#18)).tw = 5#18 ∧ (next (.limits 0 7)).straps.xctMax = 7 ∧ (next (.limits 1 0)).straps.indMax = 1 ∧
    (next (.configureSbs16 true)).unitSbs16 = true ∧ State.reset.mem.wf = true ∧
    (0o177777#16 : Addr).toNat < State.reset.straps.memsize := by decide

theorem witness_StepKeepsInvariant : Inv State.reset ∧ goesOn (step State.reset) = true ∧
    goesOn (step (machine [] 0#18 0#18)) = true :=
  ⟨⟨by decide, rfl, (fun _ h => nomatch h), rfl, (fun h => nomatch h), fun _ => rfl, fun _ => ⟨rfl, rfl, rfl⟩, rfl, .nil⟩, by rfl, by rfl⟩

theorem witness_RunningStepKeepsStraps :
    (machine [] 0#18 0#18).run = .running ∧ goesOn (step (machine [] 0#18 0#18)) = true := by decide

theorem witness_OnlyTwoPulsesAreRefused :
    let b := { machine [] 0#18 0#18 with straps := { strapsAtReset with sbs16 := false }, ioh := true }
    exec (.rnm true false 0#5) (machine [] 0#18 0#18) = .refused .renameTable ∧
    exec (.erm false false 0#5) b = .refused .restrictModeWithoutSbs16 ∧
    exec (.xct false 0o300#12) (machine [(0o300, 0o720066#18)] 0#18 0#18) = .refused .renameTable ∧
    b.straps.opt1d = true ∧ restricted b = false ∧ FirstIssue false b ∧ FirstIssue true (machine [] 0#18 0#18) :=
  ⟨rfl, rfl, by rfl, rfl, rfl, .inl rfl, .inr rfl⟩

/-- The last word of the denied bank, a word of it that an instruction tries to change, and an allowed one. -/
theorem witness_RestrictedWritesNoDeniedWord :
    restricted fenced = true ∧ denied fenced 0o7777#16 = true ∧ denied fenced 0o10000#16 = false ∧
    goesOn (exec (.dac true 0o300#12) { fenced with extm := true }) = true := by decide

theorem witness_RestrictedKeepsControl :
    restricted fenced = true ∧ goesOn (exec (.lrm false false 0#5) fenced) = true ∧
    goesOn (exec (.jmpDismiss 14#4) fenced) = true := by decide

theorem witness_RestrictedReadsNoDeniedWord :
    let m : Memory := [(0, 7#18), (0o10300, 0o000077#18), (0o10301, 0o010301#18), (0o10302, 0o000400#18)]
    restricted fenced = true ∧ fenced.mem.wf = true ∧ m.wf = true ∧ denied fenced 0#16 = true ∧
    m.get 0 ≠ fenced.mem.get 0 ∧ m.tail = fenced.mem ∧ goesOn (exec (.lac false 0o300#12) fenced) = true := by decide

theorem witness_StoresTouchOnlyTheirWord :
    storesAtMostOneWord (.dac false 0#12) = true ∧ goesOn (exec (.dac false 0#12) (machine [] 5#18 0#18)) = true ∧
    storeAddress (.dac false 0#12) (machine [] 5#18 0#18) = some 0#16 ∧ storesAtMostOneWord (.ral 0#9) = true ∧
    storeAddress (.ral 0#9) (machine [] 5#18 0#18) = none := by decide

theorem witness_SbsEvalIsLeastAdmissible :
    (sbsEval 0x8001#16 0#16).toNat = 1 ∧ (sbsEval 0x8000#16 0#16).toNat = 16 ∧ (sbsEval 0x8000#16 0x8000#16).toNat = 0 := by
  decide

theorem witness_ProtectedReadAndWrite :
    let d := { fenced with ma := 0o7777#16 }
    let a := { fenced with ma := 0o10000#16 }
    let small := { machine [] 0#18 0#18 with straps := { strapsAtReset with topField := 0 } }
    violation d d.ma = true ∧ violation a a.ma = false ∧ a.mem.wf = true ∧ a.ma.toNat < a.straps.memsize ∧
      small.straps.memsize ≤ (0o10000#16 : Addr).toNat := by decide

theorem witness_EffectiveAddress :
    okWith (ea true 0o302#12 fenced) (fun _ => true) = true ∧ ({ fenced with extm := true }).extm = true ∧
    violation fenced (directAddr fenced.pc 0o302#12) = false ∧ violation caged (directAddr caged.pc 0#12) = true ∧
    1 ≤ caged.straps.indMax := by decide

/-- One cell and two cells, under the smallest bounds that admit them and under bounds they reach. -/
theorem witness_IndirectChain :
    let s := { machine [(0o100, 0o010101#18), (0o101, 0o000102#18)] 0#18 0#18 with
      straps := { strapsAtReset with indMax := 2 } }
    let u := { s with straps := { strapsAtReset with indMax := 1 } }
    chainCell s (directAddr s.pc 0o100#12) 1 = 0o101#16 ∧ hasIndirect (s.word 0o100#16) = true ∧
    hasIndirect (s.word 0o101#16) = false ∧ restricted s = false ∧ 1 < s.straps.indMax ∧ s.extm = false ∧
    violation caged (directAddr caged.pc 0o300#12) = true ∧ caged.extm = false ∧ 1 ≤ caged.straps.indMax ∧
    u.straps.indMax = 0 + 1 ∧ hasIndirect (u.word (chainCell u (directAddr u.pc 0o100#12) 0)) = true ∧
    hasIndirect (u.word (chainCell u (directAddr u.pc 0o101#12) 0)) = false := by decide

theorem witness_XctRunsTheWordItReads :
    let s := { machine [(0o100, 0o707777#18)] 0#18 0#18 with xctCount := 15 }
    let u := { s with xctCount := 16 }
    u.straps.xctMax ≤ u.xctCount ∧ s.xctCount < s.straps.xctMax ∧ memoryReferenceCases = true ∧
    okWith (ea false 0o100#12 s) (fun t => !violation t t.ma && decode s.straps.mdv (t.word t.ma) == .law false 0o7777#12) = true := by
  decide

/-- A pointer at the end of its page, restricted and not, in extend mode and not. -/
def pointing : State := { machine [(0o100, 0o607777#18), (0o101, 0o400300#18)] 0#18 0#18 with rm := true }

theorem witness_CharacterPointer :
    violation pointing (directAddr pointing.pc 0o100#12) = false ∧ ({ pointing with extm := true }).extm = true ∧
    hasIndirect (pointing.word (directAddr pointing.pc 0o100#12)) = false ∧ 1 ≤ pointing.straps.indMax ∧
    restricted pointing = true ∧ bpPagecross pointing.straps.charFormat (pointing.word 0o100#16) = true ∧
    bpPagecross pointing.straps.charFormat (pointing.word 0o101#16) = false ∧
    restricted { pointing with rm := false } = false := by decide

/-- A walk over two pointer cells under the least bound that admits it, a walk that reaches its bound, and a denied one. -/
theorem witness_CharacterPointer_walk :
    let s := { machine [(0o77, 0o610100#18), (0o100, 0o607777#18)] 0#18 0#18 with
      straps := { strapsAtReset with indMax := 2 } }
    let u := { s with straps := { strapsAtReset with indMax := 1 } }
    chainCell s (directAddr s.pc 0o77#12) 1 = 0o100#16 ∧ 1 < s.straps.indMax ∧ s.extm = false ∧
    hasIndirect (s.word 0o77#16) = true ∧ hasIndirect (s.word 0o100#16) = false ∧ restricted s = false ∧
    okWith (eaCh true 0o77#12 s) (fun t => t.word 0o100#16 == t.mb) = true ∧
    u.straps.indMax = 0 + 1 ∧ stops (eaCh true 0o77#12 u) = true ∧
    violation caged (directAddr caged.pc 0#12) = true ∧ traps (eaCh true 0#12 caged) = true := by decide

theorem witness_CharacterResults :
    pointing.straps.opt1d = true ∧ traps (eaCh true 0o100#12 pointing) = true ∧ stops (eaCh false 0o301#12 fenced) = true ∧
    okWith (eaCh true 0o101#12 pointing) (fun t => !violation t t.ma) = true ∧
    okWith (eaCh false 0o300#12 { fenced with extm := true }) (fun t => violation t t.ma) = true := by decide

theorem witness_CallResults :
    violation fenced (directAddr fenced.pc 0o100#12) = false ∧ violation fenced (directAddr fenced.pc 0o7777#12) = false ∧
    violation caged (directAddr caged.pc 0o100#12) = true ∧ violation caged (directAddr caged.pc 0o7777#12) = true := by
  decide

theorem witness_DapAndDipReconstruct :
    let s := machine [] 0#18 0#18
    s.mem.wf = true ∧ restricted s = false ∧ (directAddr s.pc 0o7777#12).toNat < s.straps.memsize ∧
    goesOn (exec (.dap false 0o7777#12) { s with ac := 5#18 }) = true ∧
    goesOn (exec (.dip false 0o7777#12) { s with ac := 5#18 }) = true := by decide

theorem witness_AddAddsValues : addSetsOv 0o377777#18 1#18 = true ∧ addSetsOv 0o400000#18 0o377777#18 = false := by decide
theorem witness_SubSubtractsValues : subSetsOv 0o400000#18 1#18 = true ∧ subSetsOv 0o400000#18 0o400000#18 = false := by
  decide

/-- Both configurations, the least and the largest level, the read allowed and denied. -/
theorem witness_DismissalResults :
    let s := { machine [] 0#18 0#18 with sbs := ⟨true, false, true⟩, sbsAct := 0x8000#16, rm := true, rmask := 0o400000#18 }
    let u := { s with straps := { strapsAtReset with sbs16 := false }, rm := false }
    s.sbs.on = true ∧ s.pc &&& 0o170000#16 = 0#16 ∧ s.straps.sbs16 = true ∧ u.straps.sbs16 = false ∧
    violation (leaveLevel 0#4 s) 1#16 = false ∧ violation (leaveLevel 15#4 s) 61#16 = true ∧
    violation (leaveLevel 0#4 u) 1#16 = false := by decide

theorem witness_DismissalUndoesEntry :
    let s := { machine [] 5#18 6#18 with sbs := ⟨true, false, false⟩, sbsLvl := 16#5, sbsReq := 0x8000#16 }
    s.straps.sbs16 = true ∧ s.mem.wf = true ∧ s.sbs.on = true ∧ s.rm = false ∧ pendingLevel s = 15#4 ∧
    s.sbsAct.getLsbD 15 = false ∧ okWith (interruptEntry s) (fun t => goesOn (exec (.jmpDismiss 15#4) t)) = true := by
  decide

/-- The two outcomes of the test, and the selectors 1 and 7. -/
theorem witness_SkipGroup :
    let s := { machine [] 0#18 0#18 with ss := 0o40#6 }
    skipTests ⟨false, false, false, false, false, false, true, 0#3, 0#3⟩ s = true ∧
    skipTests ⟨true, false, false, true, true, false, false, 1#3, 7#3⟩ { s with pf := 1#8, ov := true } = false := by decide

theorem witness_RotateResults : (List.range 9).countP (fun k => (0o777#9).getLsbD k) = 9 ∧
    (List.range 9).countP (fun k => (0#9).getLsbD k) = 0 := by decide

theorem witness_ArithmeticShiftResults : (List.range 9).countP (fun k => (0o777#9).getLsbD k) = 9 ∧
    (List.range 9).countP (fun k => (0o400#9).getLsbD k) = 1 := by decide

/-- All six flags set, flag 1 cleared, none selected. -/
theorem witness_OperateResult :
    (∀ k : Fin 8, (0o377#8).getLsbD k = (if k.1 < 6 then true else (0o300#8).getLsbD k)) ∧
    (∀ k : Fin 8, (0o337#8).getLsbD k = (if k.1 < 6 ∧ (1#3).toNat = 6 - k.1 then false else (0o377#8).getLsbD k)) := by decide

theorem witness_HaltResult :
    let b : OprBits := ⟨false, false, false, false, true, false, false, false, false, false, 0#3⟩
    goesOn (exec (.opr { b with hlt := false }) fenced) = true ∧ restricted fenced = true ∧
    restricted (machine [] 0#18 0#18) = false := by decide

theorem witness_SpecialOperateResult : (machine [] 0#18 0#18).straps.opt1d = true ∧ (0o17777#13) ≠ 0#13 := by decide

theorem witness_UndefinedInstructions :
    let c := { strapsAtReset with opt1d := false, stopInst := false }
    undefinedUnder fenced.straps (.undef0 0o17777#13) = true ∧ restricted fenced = true ∧
    undefinedUnder c (.lch false 0#12) = true ∧ undefinedUnder strapsAtReset (.lch false 0#12) = false ∧
    restricted (machine [] 0#18 0#18) = false ∧ strapsAtReset.stopInst = true ∧ c.stopInst = false := by decide

theorem witness_RestrictedIotTraps : waitBit (.iot true true 31#5 0o77#6) = some true ∧
    waitBit (.rnm false false 0#5) = some false ∧ restricted fenced = true := by decide

theorem witness_IotWaits :
    let s := { machine [] 0#18 0#18 with ioh := true, pc := 0#16 }
    waitBit (.iot true false 0#5 3#6) = some true ∧ restricted s = false ∧ s.ioh = true ∧
    ({ s with ios := true }).ios = true ∧ s.ios = false ∧ s.cpls = [] ∧ ({ s with cpls := [0#6] }).cpls ≠ [] := by decide

/-- A present device without and with a stop, an absent one under each value of `stop_inst`. -/
theorem witness_ExternalIot :
    let s := { machine [] 0#18 0#18 with answers := [⟨true, 5#18, true, none, true, [.complete 3#6]⟩] }
    let u := { s with answers := [⟨true, 5#18, false, some 0, false, []⟩] }
    let n := { s with answers := [⟨false, 0#18, false, none, false, []⟩] }
    restricted s = false ∧ FirstIssue true s ∧ (nextAnswer s).present = true ∧ (nextAnswer s).stop = none ∧
    (nextAnswer u).stop = some 0 ∧ FirstIssue true n ∧ (nextAnswer n).present = false ∧ n.straps.stopInst = true ∧
    (nextState (exec (.iot true false 0#5 3#6) n)).ioh = false ∧
    (nextState (exec (.iot true false 0#5 3#6) n)).pc = n.pc ∧
    ({ n.straps with stopInst := false }).stopInst = false :=
  ⟨rfl, .inr rfl, rfl, rfl, rfl, .inr rfl, rfl, rfl, rfl, rfl, rfl⟩

theorem witness_ChannelPulses :
    (machine [] 0#18 0#18).straps.sbs16 = true ∧ restricted (machine [] 0#18 0#18) = false ∧
    FirstIssue false (machine [] 0#18 0#18) ∧ (15#4).toNat = (31#5).toNat % 16 ∧ (0#4).toNat = (16#5).toNat % 16 :=
  ⟨rfl, rfl, .inl rfl, rfl, rfl⟩

theorem witness_ModePulses :
    restricted (machine [] 0#18 0#18) = false ∧ FirstIssue true (machine [] 0#18 0#18) ∧
    (machine [] 0#18 0#18).straps.opt1d = true ∧ (machine [] 0#18 0#18).straps.sbs16 = true := ⟨rfl, .inr rfl, rfl, rfl⟩

theorem witness_PulsesWithoutTheirOption :
    let s := { machine [] 0#18 5#18 with
      straps := { strapsAtReset with opt1d := false, sbs16 := false }, answers := [⟨true, 5#18, false, none, false, []⟩] }
    restricted s = false ∧ FirstIssue true s ∧ s.straps.opt1d = false ∧ s.straps.sbs16 = false ∧
    s.answers = ⟨true, s.io, false, none, false, []⟩ :: [] := ⟨rfl, .inr rfl, rfl, rfl, rfl⟩

end Sys2Proof.Tests
end

section
/-! The memory family (`20_memory.md`): the protected accesses. -/

namespace Sys2Proof.MemoryProofs
open Sys2Proof.Machine

/-- Cause 0 leaves the low 14 bits of MB alone in the trap buffer (R54). -/
theorem recordTrap_access (s : State) : s.recordTrap .access = { s with rtb := s.mb &&& 0o37777#18 } := by
  have hrecord : trapRecord s .access = s.mb &&& 0o37777#18 := by simp [trapRecord, causeCode]
  rw [State.recordTrap, hrecord]

/-- No word stands at or above `MEMSIZE`: a read there gives 0 (R56). -/
theorem word_of_memsize_le {s : State} {a : Addr} (h : s.straps.memsize ≤ a.toNat) : s.word a = 0#18 :=
  if_neg (Nat.not_lt.mpr h)

/-- A store at or above `MEMSIZE` leaves memory as it was (R56). -/
theorem stored_of_memsize_le {s : State} {a : Addr} (v : Word) (h : s.straps.memsize ≤ a.toNat) :
    s.stored a v = s.mem :=
  if_neg (Nat.not_lt.mpr h)

/-- Settles O21: with a violation both accesses record cause 0, without one they are a load of MB and a store of it. -/
theorem protectedReadAndWrite : Obligations.ProtectedReadAndWrite := by
  intro s
  refine ⟨fun hv => ?denied, fun hv => readWord_of hv, fun hv => ?written, fun a ha => ?outside⟩
  case denied =>
    rw [← recordTrap_access s]
    exact ⟨readWord_violation hv, writeWord_violation hv⟩
  case written =>
    exact ⟨s.store s.ma s.mb, writeWord_of hv, rfl, fun _ ha => State.word_store_other s s.mb ha,
      fun hm hlt => State.word_store_same s.mb hm hlt⟩
  case outside => exact ⟨word_of_memsize_le ha, fun v => stored_of_memsize_le v ha⟩

end Sys2Proof.MemoryProofs
end

section
/-! The exceptions family (`60_exceptions.md`): the masks of levels, the controller's evaluation, the break request port. -/

namespace Sys2Proof.ExceptionProofs
open Sys2Proof.Machine

/-! ### One level of a mask -/

/-- The mask that holds level `l` alone (R34). -/
theorem getLsbD_levelMask (l : BitVec 4) (k : Nat) : (1#16 <<< l.toNat).getLsbD k = decide (k = l.toNat) := by
  have hmask : 1#16 <<< l.toNat = BitVec.twoPow 16 l.toNat := rfl
  have hl : l.toNat < 16 := l.isLt
  simp [hmask, BitVec.getLsbD_twoPow, hl, eq_comm]

theorem getLsbD_setLevel (m : BitVec 16) (l : BitVec 4) (k : Nat) :
    (setLevel m l).getLsbD k = if k = l.toNat then true else m.getLsbD k := by
  rw [setLevel, BitVec.getLsbD_or, getLsbD_levelMask]
  by_cases hk : k = l.toNat <;> simp [hk]

theorem getLsbD_clearLevel (m : BitVec 16) (l : BitVec 4) {k : Nat} (hk16 : k < 16) :
    (clearLevel m l).getLsbD k = if k = l.toNat then false else m.getLsbD k := by
  rw [clearLevel, BitVec.getLsbD_and, BitVec.getLsbD_not, getLsbD_levelMask]
  by_cases hk : k = l.toNat <;> simp [hk, hk16]

/-! ### The break request port (R176) -/

theorem breakRequest_enabled {s : State} {l : BitVec 4} (h16 : s.straps.sbs16 = true)
    (henb : s.sbsEnb.getLsbD l.toNat = true) : breakRequest l s = { s with sbsReq := setLevel s.sbsReq l } := by
  rw [breakRequest, if_pos h16, if_pos henb]

theorem breakRequest_disabled {s : State} {l : BitVec 4} (h16 : s.straps.sbs16 = true)
    (henb : s.sbsEnb.getLsbD l.toNat = false) : breakRequest l s = s := by
  rw [breakRequest, if_pos h16, if_neg (ne_true_of_eq_false henb)]

theorem breakRequest_oneChannel {s : State} {l : BitVec 4} (h1 : s.straps.sbs16 = false) :
    breakRequest l s = { s with sbs := { s.sbs with rq := true } } := by
  rw [breakRequest, if_neg (ne_true_of_eq_false h1)]

/-- Settles O8: the port is `breakRequest`, case by case, and a level's mask decides one bit. -/
theorem breakRequestPort : Obligations.BreakRequestPort := by
  intro s l
  exact ⟨breakRequest_enabled, breakRequest_disabled, breakRequest_oneChannel,
    fun m k hk => ⟨getLsbD_setLevel m l k, getLsbD_clearLevel m l hk⟩⟩

/-! ### The least level of a mask (R174) -/

/-- The search up from level `16 - n` answers at most `l` exactly if it meets a set level there or below. -/
theorem leastFrom_le_iff (m : BitVec 16) {n l : Nat} (hn : n ≤ 16) (hl : l < 16) :
    leastFrom m n ≤ l ↔ ∃ k, 16 - n ≤ k ∧ k ≤ l ∧ m.getLsbD k = true := by
  induction n with
  | zero =>
    constructor
    · intro (h : 16 ≤ l)
      exact absurd hl (Nat.not_lt.mpr h)
    · rintro ⟨k, hk, hkl, -⟩
      omega
  | succ n ih =>
    have ih := ih (by omega)
    rw [leastFrom]
    split
    case isTrue hset =>
      exact ⟨fun h => ⟨15 - n, by omega, h, hset⟩, fun ⟨k, hk, hkl, _⟩ => by omega⟩
    case isFalse hclear =>
      rw [ih]
      constructor
      · rintro ⟨k, hk, hkl, hbit⟩
        exact ⟨k, by omega, hkl, hbit⟩
      · rintro ⟨k, hk, hkl, hbit⟩
        have hne : k ≠ 15 - n := fun heq => hclear (heq ▸ hbit)
        exact ⟨k, by omega, hkl, hbit⟩

theorem leastLevel_le_iff (m : BitVec 16) {l : Nat} (hl : l < 16) :
    leastLevel m ≤ l ↔ ∃ k, k ≤ l ∧ m.getLsbD k = true := by
  simpa [leastLevel] using leastFrom_le_iff m (Nat.le_refl 16) hl

/-- The levels below the least one are those with no set level at or below them. -/
theorem lt_leastLevel_iff (m : BitVec 16) {l : Nat} (hl : l < 16) :
    l < leastLevel m ↔ ∀ k, k ≤ l → m.getLsbD k = false := by
  rw [← Nat.not_le, leastLevel_le_iff m hl]
  simp

/-- 16 is the search's answer when no level is set, and its largest. -/
theorem leastFrom_le (m : BitVec 16) (n : Nat) : leastFrom m n ≤ 16 := by
  induction n with
  | zero => exact Nat.le_refl 16
  | succ n ih =>
    rw [leastFrom]
    split
    · omega
    · exact ih

theorem leastLevel_le (m : BitVec 16) : leastLevel m ≤ 16 := leastFrom_le m 16

/-- A least level below 16 is one of the mask's own. -/
theorem getLsbD_leastLevel {m : BitVec 16} (h : leastLevel m < 16) : m.getLsbD (leastLevel m) = true := by
  obtain ⟨k, hk, hbit⟩ := (leastLevel_le_iff m h).mp (Nat.le_refl _)
  have hle : leastLevel m ≤ k := (leastLevel_le_iff m (by omega)).mpr ⟨k, Nat.le_refl k, hbit⟩
  rwa [Nat.le_antisymm hle hk]

/-- One mask's least level is at or below another's exactly if each level of the other has one of it at or below. -/
theorem leastLevel_le_leastLevel_iff (act req : BitVec 16) :
    leastLevel act ≤ leastLevel req ↔
      ∀ l, l < 16 → req.getLsbD l = true → ∃ k, k ≤ l ∧ act.getLsbD k = true := by
  constructor
  · intro hle l hl hreq
    have hreqLe : leastLevel req ≤ l := (leastLevel_le_iff req hl).mpr ⟨l, Nat.le_refl l, hreq⟩
    exact (leastLevel_le_iff act hl).mp (hle.trans hreqLe)
  · intro hblocked
    by_cases hsome : leastLevel req < 16
    · exact (leastLevel_le_iff act hsome).mpr (hblocked _ hsome (getLsbD_leastLevel hsome))
    · exact (leastLevel_le act).trans (Nat.not_lt.mp hsome)

/-! ### The evaluation (R174) -/

/-- The five bits of the evaluation hold level + 1 whole: a level it names is below another one, so at most 15. -/
theorem sbsEval_toNat (req act : BitVec 16) :
    (sbsEval req act).toNat = if leastLevel req < leastLevel act then leastLevel req + 1 else 0 := by
  have hact := leastLevel_le act
  rw [sbsEval]
  split
  · rw [BitVec.toNat_ofNat]
    omega
  · rfl

theorem sbsEval_toNat_eq_zero_iff (req act : BitVec 16) :
    (sbsEval req act).toNat = 0 ↔ leastLevel act ≤ leastLevel req := by
  rw [sbsEval_toNat]
  split <;> omega

theorem sbsEval_toNat_eq_succ_iff (req act : BitVec 16) (l : Nat) :
    (sbsEval req act).toNat = l + 1 ↔ leastLevel req = l ∧ l < leastLevel act := by
  rw [sbsEval_toNat]
  split <;> omega

theorem sbsEval_toNat_le (req act : BitVec 16) : (sbsEval req act).toNat ≤ 16 := by
  have hact := leastLevel_le act
  rw [sbsEval_toNat]
  split <;> omega

/-- Settles O18: the evaluation compares the least levels of the two masks, and each of them is least in its mask. -/
theorem sbsEvalIsLeastAdmissible : Obligations.SbsEvalIsLeastAdmissible := by
  intro req act
  refine ⟨fun l hl heval => ?named, ?blocked, sbsEval_toNat_le req act⟩
  case named =>
    obtain ⟨rfl, hact⟩ := (sbsEval_toNat_eq_succ_iff req act l).mp heval
    exact ⟨getLsbD_leastLevel hl,
      fun k hk => (lt_leastLevel_iff req (hk.trans hl)).mp hk k (Nat.le_refl k),
      (lt_leastLevel_iff act hl).mp hact⟩
  case blocked => rw [sbsEval_toNat_eq_zero_iff, leastLevel_le_leastLevel_iff]

end Sys2Proof.ExceptionProofs
end

section
/-! The encoding family (`30_encoding.md`): the fields that the formats give back, and the two round trips. -/

namespace Sys2Proof.EncodingProofs

/-! ### A word is the fields of its format -/

theorem wordRest_fields (w : Word) : wordRest (bitField w 13 5) (bitField w 0 13) = w := by
  apply BitVec.eq_of_getLsbD_eq
  intro i hi
  simp only [wordRest, BitVec.getLsbD_or, placed_getLsbD, bitField_getLsbD]
  interval_cases i <;> simp

theorem wordShift_fields {w : Word} (hop : bitField w 13 5 = 0o33#5) :
    wordShift (bitField w 9 4) (bitField w 0 9) = w := by
  rw [wordShift, ← hop]
  apply BitVec.eq_of_getLsbD_eq
  intro i hi
  simp only [BitVec.getLsbD_or, placed_getLsbD, bitField_getLsbD]
  interval_cases i <;> simp

theorem wordIot_fields {w : Word} (hop : bitField w 13 5 = 0o35#5) :
    wordIot (w.getLsbD 12) (w.getLsbD 11) (bitField w 6 5) (bitField w 0 6) = w := by
  rw [wordIot, ← hop]
  apply BitVec.eq_of_getLsbD_eq
  intro i hi
  simp only [BitVec.getLsbD_or, placed_getLsbD, placedBit_getLsbD, bitField_getLsbD]
  interval_cases i <;> simp

theorem wordSkip_fields {w : Word} (hop : bitField w 13 5 = 0o32#5) : wordSkip (decodeSkip w) = w := by
  rw [wordSkip, ← hop]
  apply BitVec.eq_of_getLsbD_eq
  intro i hi
  simp only [decodeSkip, BitVec.getLsbD_or, placed_getLsbD, placedBit_getLsbD, bitField_getLsbD]
  interval_cases i <;> simp

theorem wordOpr_fields {w : Word} (hop : bitField w 13 5 = 0o37#5) : wordOpr (decodeOpr w) = w := by
  rw [wordOpr, ← hop]
  apply BitVec.eq_of_getLsbD_eq
  intro i hi
  simp only [decodeOpr, BitVec.getLsbD_or, placed_getLsbD, placedBit_getLsbD, bitField_getLsbD]
  interval_cases i <;> simp

/-! ### The fields of the skip and operate words -/

theorem decodeSkip_wordSkip (b : SkipBits) : decodeSkip (wordSkip b) = b := by
  have hsw : bitField (wordSkip b) 3 3 = b.sw := bitField_eq fun i hi => by
    simp only [wordSkip, BitVec.getLsbD_or, placed_getLsbD, placedBit_getLsbD]
    interval_cases i <;> simp [-BitVec.getLsbD_eq_getElem, BitVec.getLsbD_of_ge]
  have hfl : bitField (wordSkip b) 0 3 = b.fl := bitField_eq fun i hi => by
    simp only [wordSkip, BitVec.getLsbD_or, placed_getLsbD, placedBit_getLsbD]
    interval_cases i <;> simp [-BitVec.getLsbD_eq_getElem]
  rw [decodeSkip, hsw, hfl]
  simp [wordSkip, BitVec.getLsbD_or, placed_getLsbD, placedBit_getLsbD, -BitVec.getLsbD_eq_getElem,
    BitVec.getLsbD_of_ge]

theorem decodeOpr_wordOpr (b : OprBits) : decodeOpr (wordOpr b) = b := by
  have hfl : bitField (wordOpr b) 0 3 = b.fl := bitField_eq fun i hi => by
    simp only [wordOpr, BitVec.getLsbD_or, placed_getLsbD, placedBit_getLsbD]
    interval_cases i <;> simp [-BitVec.getLsbD_eq_getElem]
  rw [decodeOpr, hfl]
  simp [wordOpr, BitVec.getLsbD_or, placed_getLsbD, placedBit_getLsbD, -BitVec.getLsbD_eq_getElem,
    BitVec.getLsbD_of_ge]

/-! ### The dismissal words (`44_jump_law.md` R121) -/

theorem isDismissalY_dismissalY (l : BitVec 4) : isDismissalY (dismissalY l) = true := by
  revert l
  decide

theorem dismissal_level (l : BitVec 4) : bitField (wordMem 0o30#5 true (dismissalY l)) 2 4 = l := by
  revert l
  decide

/-- The dismissal pattern leaves free the four bits of the level and no other. -/
theorem dismissalY_of_isDismissalY {y : BitVec 12} (h : isDismissalY y = true) :
    dismissalY (y.extractLsb' 2 4) = y := by
  have hmask : y &&& 0o7703#12 = 1#12 := by simpa [isDismissalY] using h
  apply BitVec.eq_of_getLsbD_eq
  intro i hi
  have hbit : (y &&& 0o7703#12).getLsbD i = (1#12).getLsbD i := by rw [hmask]
  simp only [BitVec.getLsbD_and] at hbit
  simp only [dismissalY, BitVec.getLsbD_or, BitVec.getLsbD_shiftLeft, BitVec.getLsbD_setWidth, BitVec.getLsbD_extractLsb']
  interval_cases i <;> simp_all

/-- The address field of a dismissal word, read from the word. -/
theorem dismissalY_field {w : Word} (h : isDismissalY (bitField w 0 12) = true) :
    dismissalY (bitField w 2 4) = bitField w 0 12 := by
  have hlevel : bitField w 2 4 = (bitField w 0 12).extractLsb' 2 4 := bitField_eq fun i hi => by
    simp only [BitVec.getLsbD_extractLsb', bitField_getLsbD]
    interval_cases i <;> simp
  rw [hlevel, dismissalY_of_isDismissalY h]

/-! ### The decoder on a word of each format -/

theorem decode_wordShift (mdv : Bool) (sub : BitVec 4) (code : BitVec 9) :
    decode mdv (wordShift sub code) = decodeShift (wordShift sub code) := by
  simp [decode, wordShift_op]

theorem decode_wordIot (mdv w c : Bool) (sub : BitVec 5) (dev : BitVec 6) :
    decode mdv (wordIot w c sub dev) = decodeIot (wordIot w c sub dev) := by
  simp [decode, wordIot_op]

theorem coreDevices_contains (dev : BitVec 6) : coreDevices.contains dev =
    decide (dev.toNat ∈ [0o10, 0o11, 0o35, 0o50, 0o51, 0o52, 0o53, 0o54, 0o55, 0o56, 0o64, 0o65, 0o66, 0o67, 0o74]) := by
  revert dev
  decide

/-- A device code that is none of the CORE's is an external device's (R155). -/
theorem decodeIot_external {w : Word} (h : coreDevices.contains (bitField w 0 6) = false) :
    decodeIot w = .iot (w.getLsbD 12) (w.getLsbD 11) (bitField w 6 5) (bitField w 0 6) := by
  rw [coreDevices_contains, decide_eq_false_iff_not] at h
  unfold decodeIot
  dsimp only
  split
  case h_16 => rfl
  all_goals
    rename_i hdev
    exact absurd (by rw [hdev]; decide) h

/-! ### Decoding what was encoded -/

/-- Settles O1: every field of the word's format is read back, and where two rows share an opcode the operand's
own check of `wellFormed` tells them apart. -/
theorem decodeOfEncode : Obligations.DecodeOfEncode := by
  intro mdv i hwf
  cases i with
  | jmp ind y =>
    have hno : (ind && isDismissalY y) = false := by rwa [wellFormed, Bool.not_eq_true'] at hwf
    simp [encode, decode, wordMem_op, wordMem_ind, wordMem_y, hno, -BitVec.getLsbD_eq_getElem, -Bool.and_eq_true]
  | jmpDismiss l =>
    simp [encode, decode, wordMem_op, wordMem_ind, wordMem_y, -BitVec.getLsbD_eq_getElem,
      isDismissalY_dismissalY, dismissal_level]
  | iot w c sub dev =>
    have hdev : coreDevices.contains (bitField (wordIot w c sub dev) 0 6) = false := by
      simpa [wellFormed, wordIot_dev] using hwf
    rw [encode, decode_wordIot, decodeIot_external hdev, wordIot_wait, wordIot_completion, wordIot_sub, wordIot_dev]
  | undef0 bits | spc bits => simp [encode, decode, wordRest_op, wordRest_bits]
  | skp b => simp [encode, decode, wordSkip_op, decodeSkip_wordSkip]
  | opr b => simp [encode, decode, wordOpr_op, decodeOpr_wordOpr]
  | mul ind y | mus ind y | div ind y | dis ind y =>
    simp only [wellFormed, Bool.not_eq_true'] at hwf
    simp [encode, decode, wordMem_op, wordMem_ind, wordMem_y, hwf, -BitVec.getLsbD_eq_getElem]
  | ral code | ril code | rcl code | sal code | sil code | scl code | rar code | rir code | rcr code | sar code
  | sir code | scr code | sftUndef00 code | sftUndef04 code | sftUndef10 code | sftUndef14 code =>
    simp [encode, decode_wordShift, decodeShift, wordShift_sub, wordShift_code]
  | rngClr w c sub | rngSet w c sub | rtb w c sub | dsc w c sub | asc w c sub | isb w c sub | cac w c sub
  | lsm w c sub | esm w c sub | cbs w c sub | lrm w c sub | erm w c sub | rnm w c sub | rsm w c sub
  | lem w sub | eem w sub =>
    simp [encode, decode_wordIot, decodeIot, wordIot_dev, wordIot_wait, wordIot_completion, wordIot_sub,
      -BitVec.getLsbD_eq_getElem]
  | _ => simp [encode, decode, wordMem_op, wordMem_ind, wordMem_y, -BitVec.getLsbD_eq_getElem]

/-! ### Encoding what was decoded -/

theorem wordIot_fields_of {w : Word} {dev : BitVec 6} (hop : bitField w 13 5 = 0o35#5)
    (hdev : (bitField w 0 6).toNat = dev.toNat) :
    wordIot (w.getLsbD 12) (w.getLsbD 11) (bitField w 6 5) dev = w := by
  rw [← BitVec.eq_of_toNat_eq hdev, wordIot_fields hop]

/-- A word of opcode 035 is the word of the I/O transfer it decodes to. -/
theorem encode_decodeIot {w : Word} (hop : bitField w 13 5 = 0o35#5) (mdv : Bool) :
    wellFormed mdv (decodeIot w) = true ∧ encode (decodeIot w) = w := by
  by_cases hdev : coreDevices.contains (bitField w 0 6) = false
  · rw [decodeIot_external hdev]
    exact ⟨by rw [wellFormed, hdev, Bool.not_false], wordIot_fields hop⟩
  · rw [coreDevices_contains, decide_eq_false_iff_not, not_not] at hdev
    unfold decodeIot
    dsimp only
    split
    case h_15 h =>
      have hfields := wordIot_fields_of (dev := 0o74#6) hop h
      cases hc : w.getLsbD 11 <;> rw [hc] at hfields <;> exact ⟨rfl, hfields⟩
    case h_16 => simp_all
    all_goals
      rename_i h
      exact ⟨rfl, wordIot_fields_of hop h⟩

theorem wordShift_fields_of {w : Word} {sub : BitVec 4} (hop : bitField w 13 5 = 0o33#5)
    (hsub : (bitField w 9 4).toNat = sub.toNat) : wordShift sub (bitField w 0 9) = w := by
  rw [← BitVec.eq_of_toNat_eq hsub, wordShift_fields hop]

/-- A word of opcode 033 is the word of the shift it decodes to. -/
theorem encode_decodeShift {w : Word} (hop : bitField w 13 5 = 0o33#5) (mdv : Bool) :
    wellFormed mdv (decodeShift w) = true ∧ encode (decodeShift w) = w := by
  unfold decodeShift
  dsimp only
  split
  case h_16 =>
    have hlt := (bitField w 9 4).isLt
    have hsub : (bitField w 9 4).toNat = 0o17 := by simp only [imp_false] at *; omega
    exact ⟨rfl, wordShift_fields_of (sub := 0o17#4) hop hsub⟩
  all_goals
    rename_i h
    exact ⟨rfl, wordShift_fields_of hop h⟩

theorem wordMem_fields_of {w : Word} {op : BitVec 5} (hop : (bitField w 13 5).toNat = op.toNat) :
    wordMem op (w.getLsbD 12) (bitField w 0 12) = w := by
  rw [← BitVec.eq_of_toNat_eq hop, wordMem_fields]

theorem wordRest_fields_of {w : Word} {op : BitVec 5} (hop : (bitField w 13 5).toNat = op.toNat) :
    wordRest op (bitField w 0 13) = w := by
  rw [← BitVec.eq_of_toNat_eq hop, wordRest_fields]

/-- Settles O2: the word decodes by its opcode to a row whose format gives its fields back. -/
theorem encodeOfDecode : Obligations.EncodeOfDecode := by
  intro mdv w
  unfold decode
  dsimp only
  split
  all_goals rename_i hop
  case h_8 =>
    have hfields := wordMem_fields_of (op := 0o07#5) hop
    cases hind : w.getLsbD 12 <;> rw [hind] at hfields <;> exact ⟨rfl, hfields⟩
  case h_23 | h_24 => cases mdv <;> exact ⟨rfl, wordMem_fields_of hop⟩
  case h_25 =>
    have hfields := wordMem_fields_of (op := 0o30#5) hop
    split
    · rename_i h
      rw [Bool.and_eq_true] at h
      rw [h.1, ← dismissalY_field h.2] at hfields
      exact ⟨rfl, hfields⟩
    · rename_i h
      exact ⟨by rw [wellFormed, Bool.not_eq_true', Bool.eq_false_iff]; exact h, hfields⟩
  case h_1 | h_31 => exact ⟨rfl, wordRest_fields_of hop⟩
  case h_27 => exact ⟨rfl, wordSkip_fields (BitVec.eq_of_toNat_eq hop)⟩
  case h_28 => exact encode_decodeShift (BitVec.eq_of_toNat_eq hop) mdv
  case h_30 => exact encode_decodeIot (BitVec.eq_of_toNat_eq hop) mdv
  case h_32 =>
    have hlt := (bitField w 13 5).isLt
    have hop : (bitField w 13 5).toNat = 0o37 := by simp only [imp_false] at *; omega
    exact ⟨rfl, wordOpr_fields (BitVec.eq_of_toNat_eq hop)⟩
  all_goals exact ⟨rfl, wordMem_fields_of hop⟩

/-- Settles O3: each word by evaluation. -/
theorem decodesWordsOfTheSpec : Obligations.DecodesWordsOfTheSpec := by
  unfold Obligations.DecodesWordsOfTheSpec
  decide

end Sys2Proof.EncodingProofs
end

section
/-! What an instruction is made of. Every instruction but XCT and the I/O transfers is a `Program`: a composition of
register updates, protected accesses, the leaving of a level and the early ends. A property of all instructions is then
one induction over the ten ways to compose a program, one argument about I/O transfers and one about the chain of XCT. -/

namespace Sys2Proof.Machine

/-! ### Register updates -/

/-- A value that depends on the state but not on memory. -/
def Blind {α : Type} (k : State → α) : Prop := ∀ (s : State) (m : Memory), k { s with mem := m } = k s

/-- An update of the registers that a program writes: it neither reads nor writes memory, and without the PDP-1D option
it leaves the link and the ring-mode bit alone. -/
structure RegisterUpdate (g : State → State) : Prop where
  frame : ∀ s, g s = { s with
    ac := (g s).ac, io := (g s).io, pc := (g s).pc, ma := (g s).ma, mb := (g s).mb
    ov := (g s).ov, pf := (g s).pf, extm := (g s).extm }
  blind : ∀ (s : State) (m : Memory), g { s with mem := m } = { g s with mem := m }
  linkRing : ∀ s, s.straps.opt1d = false → (g s).pf &&& 0o300#8 = s.pf &&& 0o300#8

theorem RegisterUpdate.of_eq {g h : State → State} (hg : RegisterUpdate g) (heq : ∀ s, h s = g s) : RegisterUpdate h :=
  funext heq ▸ hg

theorem RegisterUpdate.id : RegisterUpdate fun s => s := ⟨fun _ => rfl, fun _ _ => rfl, fun _ _ => rfl⟩

theorem RegisterUpdate.mem_eq {g : State → State} (hg : RegisterUpdate g) (s : State) : (g s).mem = s.mem :=
  (congrArg State.mem (hg.frame s) :)

/-- A choice between two updates that memory does not influence. -/
theorem RegisterUpdate.ite {g h : State → State} {c : State → Bool} (hc : Blind c) (hg : RegisterUpdate g)
    (hh : RegisterUpdate h) : RegisterUpdate fun s => if c s then g s else h s where
  frame s := by split; exacts [hg.frame s, hh.frame s]
  blind s m := by rw [hc s m]; split; exacts [hg.blind s m, hh.blind s m]
  linkRing s h1d := by split; exacts [hg.linkRing s h1d, hh.linkRing s h1d]

theorem RegisterUpdate.skipIf {c : State → Bool} (hc : Blind c) : RegisterUpdate fun s => s.skipIf (c s) :=
  .ite hc ⟨fun _ => rfl, fun _ _ => rfl, fun _ _ => rfl⟩ .id

/-- The test word, the packed PC word and the other operands of operate are registers (R145). -/
theorem RegisterUpdate.operate (b : OprBits) : RegisterUpdate (operate b) where
  frame _ := rfl
  blind _ _ := rfl
  linkRing s _ := by
    have hsel : (sel b.fl).setWidth 8 &&& 0o300#8 = 0#8 := by
      generalize b.fl = fl
      revert fl
      decide
    show oprPf b s.pf &&& 0o300#8 = _
    unfold oprPf
    split
    · calc (s.pf ||| (sel b.fl).setWidth 8) &&& 0o300#8
          = (s.pf &&& 0o300#8) ||| ((sel b.fl).setWidth 8 &&& 0o300#8) := BitVec.and_or_distrib_right ..
        _ = s.pf &&& 0o300#8 := by rw [hsel, BitVec.or_zero]
    · have hkeep : ~~~((sel b.fl).setWidth 8) &&& 0o300#8 = 0o300#8 := by
        generalize b.fl = fl
        revert fl
        decide
      rw [BitVec.and_assoc, hkeep]

/-! ### Programs -/

/-- The operations that instructions are composed of; with `writes` false none of them stores. -/
inductive Program (writes : Bool) : (State → Res) → Prop where
  | update {g : State → State} : RegisterUpdate g → Program writes fun s => .ok (g s)
  | leave (l : BitVec 4) : Program writes fun s => .ok (leaveLevel l s)
  | read : Program writes readWord
  | write : writes = true → Program writes writeWord
  | seq {f g : State → Res} : Program writes f → Program writes g → Program writes fun s => (f s).andThen g
  | depend {α : Type} {k : State → α} {F : α → State → Res} :
      Blind k → (∀ a, Program writes (F a)) → Program writes fun s => F (k s) s
  | tooLong : Program writes fun s => .stop .ind s
  | undefined : Program writes undefinedInstruction
  | halt : Program writes haltOp
  | pageCross {f : State → Res} : Program writes f →
      Program writes fun s => if restricted s then violate .chr s else f s

namespace Program

variable {w : Bool} {f g : State → Res}

theorem of_eq (hf : Program w f) (heq : ∀ s, g s = f s) : Program w g := funext heq ▸ hf

/-- An update before a program. -/
theorem after {u : State → State} (hu : RegisterUpdate u) (hf : Program w f) : Program w fun s => f (u s) :=
  .seq (.update hu) hf

theorem ite {c : State → Bool} (hc : Blind c) (hf : Program w f) (hg : Program w g) :
    Program w fun s => if c s then f s else g s :=
  .depend (F := fun b s => if b then f s else g s) hc fun b => by cases b <;> assumption

theorem withMa {k : State → Addr} (hk : Blind k) : RegisterUpdate fun s => s.withMa (k s) :=
  ⟨fun _ => rfl, fun s m => by rw [hk s m]; rfl, fun _ _ => rfl⟩

theorem withMb {k : State → Word} (hk : Blind k) : RegisterUpdate fun s => s.withMb (k s) :=
  ⟨fun _ => rfl, fun s m => by rw [hk s m]; rfl, fun _ _ => rfl⟩

/-! ### The address resolutions -/

theorem chase (n : Nat) : Program w (Machine.chase n) := by
  induction n with
  | zero => exact .tooLong
  | succ n ih =>
    have hnext : RegisterUpdate fun s => s.withMa (chainAddr s.pc s.mb) := withMa fun _ _ => rfl
    exact .seq .read (.ite (c := fun s => hasIndirect s.mb) (fun _ _ => rfl) (.after hnext ih) (.update hnext))

theorem ea (ind : Bool) (y : BitVec 12) : Program w (Machine.ea ind y) := by
  have hstart : RegisterUpdate fun s => s.withMa (directAddr s.pc y) := withMa fun _ _ => rfl
  have hword : RegisterUpdate fun s => s.withMa (s.mb.setWidth 16) := withMa fun _ _ => rfl
  refine .ite (c := fun _ => !ind) (fun _ _ => rfl) (.update hstart) (.ite (c := State.extm) (fun _ _ => rfl) ?_ ?_)
  · exact .after hstart (.seq .read (.update hword))
  · exact .depend (k := fun s => s.straps.indMax) (F := fun n s => Machine.chase n (s.withMa (directAddr s.pc y)))
      (fun _ _ => rfl) fun n => .after hstart (.chase n)

theorem operand (ind : Bool) (y : BitVec 12) : Program w (Machine.operand ind y) := .seq (.ea ind y) .read

theorem chasePointer (n : Nat) : Program w (Machine.chasePointer n) := by
  induction n with
  | zero => exact .tooLong
  | succ n ih =>
    have hnext : RegisterUpdate fun s => s.withMa (chainAddr s.pc s.mb) := withMa fun _ _ => rfl
    exact .seq .read (.ite (c := fun s => hasIndirect s.mb) (fun _ _ => rfl) (.after hnext ih) (.update .id))

theorem advancePointer : Program true Machine.advancePointer := by
  have hwrite : Program true fun s =>
      writeWord (s.withMb (bpIncr s.straps.charFormat s.mb (ringMode s))) :=
    .after (withMb fun _ _ => rfl) (.write rfl)
  refine (Program.ite (c := fun s => bpPagecross s.straps.charFormat s.mb) (fun _ _ => rfl)
    (.pageCross hwrite) hwrite).of_eq fun s => ?_
  unfold Machine.advancePointer
  cases restricted s <;> cases bpPagecross s.straps.charFormat s.mb <;> rfl

theorem eaCh (auto : Bool) (y : BitVec 12) : Program true (Machine.eaCh auto y) := by
  have hstart : RegisterUpdate fun s => s.withMa (directAddr s.pc y) := withMa fun _ _ => rfl
  refine .seq (.seq ?_ ?_) (.update (withMa fun _ _ => rfl))
  · exact .ite (c := State.extm) (fun _ _ => rfl) (.after hstart .read)
      (.depend (k := fun s => s.straps.indMax)
        (F := fun n s => Machine.chasePointer n (s.withMa (directAddr s.pc y)))
        (fun _ _ => rfl) fun n => .after hstart (.chasePointer n))
  · exact .ite (c := fun _ => auto) (fun _ _ => rfl) .advancePointer (.update .id)

/-! ### The shapes of the instructions -/

/-- An operand taken into the registers. -/
theorem operandThen (ind : Bool) (y : BitVec 12) {u : State → State} (hu : RegisterUpdate u) :
    Program w fun s => (Machine.operand ind y s).andThen fun t => .ok (u t) :=
  .seq (.operand ind y) (.update hu)

theorem indexMemory (ind : Bool) (y : BitVec 12) : Program true (Machine.indexMemory ind y) :=
  .seq (.operand ind y) (.after (u := fun t => { t with ac := indexResult t.mb, mb := indexResult t.mb })
    ⟨fun _ => rfl, fun _ _ => rfl, fun _ _ => rfl⟩ (.write rfl))

theorem storeValue {v : State → Word} (hv : Blind v) (ind : Bool) (y : BitVec 12) :
    Program true (Machine.storeValue v ind y) :=
  .seq (.ea ind y) (.after (withMb hv) (.write rfl))

theorem storeMerged {v : State → Word} (hv : Blind v) (ind : Bool) (y : BitVec 12) :
    Program true (Machine.storeMerged v ind y) :=
  .seq (.operand ind y) (.after (withMb hv) (.write rfl))

theorem pairWithOperand (p : Word → Word → Word → Word × Word) (ind : Bool) (y : BitVec 12) :
    Program w (Machine.pairWithOperand p ind y) :=
  .operandThen ind y ⟨fun _ => rfl, fun _ _ => rfl, fun _ _ => rfl⟩

theorem acWithOperand (p : Word → Word → Word) (ind : Bool) (y : BitVec 12) : Program w (Machine.acWithOperand p ind y) :=
  .operandThen ind y ⟨fun _ => rfl, fun _ _ => rfl, fun _ _ => rfl⟩

theorem jump (ind : Bool) (y : BitVec 12) : Program w (Machine.jump ind y) :=
  .seq (.ea ind y) (.update ⟨fun _ => rfl, fun _ _ => rfl, fun _ _ => rfl⟩)

theorem dismiss (l : BitVec 4) : Program w (Machine.dismiss l) :=
  .seq (.seq (.leave l) (.after (withMa (k := fun _ => statusBlock l + 1#16) fun _ _ => rfl) .read))
    (.update (g := restorePc) ⟨fun _ => rfl, fun _ _ => rfl, fun _ _ => rfl⟩)

theorem callAt {k : State → Addr} (hk : Blind k) : Program true fun s => Machine.callAt (k s) s :=
  .depend hk fun a => .after (u := fun s => { s with ma := a, mb := s.ac, ac := epcWord s, pc := incrAddr a })
    ⟨fun _ => rfl, fun _ _ => rfl, fun _ _ => rfl⟩ (.write rfl)

theorem loadCharacter : Program w Machine.loadCharacter :=
  .depend (k := pointerShift)
    (F := fun n s => (readWord s).andThen fun t => .ok { t with ac := chGet t.straps.charFormat t.mb n })
    (fun _ _ => rfl) fun _ => .seq .read (.update ⟨fun _ => rfl, fun _ _ => rfl, fun _ _ => rfl⟩)

theorem depositCharacter : Program true Machine.depositCharacter :=
  .depend (k := pointerShift)
    (F := fun n s => (readWord s).andThen fun t => writeWord (t.withMb (chPut t.straps.charFormat t.mb n t.ac)))
    (fun _ _ => rfl) fun _ => .seq .read (.after (withMb fun _ _ => rfl) (.write rfl))

/-- An instruction that is undefined without the PDP-1D option. -/
theorem pdp1d (hf : Program w f) :
    Program w fun s => if s.straps.opt1d then f s else undefinedInstruction s :=
  .ite (c := fun s => s.straps.opt1d) (fun _ _ => rfl) hf .undefined

/-- TAD's update, which leaves the link of a machine without the option alone (R105). -/
def tadUpdate (t : State) : State := if t.straps.opt1d then addWithLink t else t

theorem tadUpdate_registers : RegisterUpdate tadUpdate where
  frame s := by unfold tadUpdate; split <;> rfl
  blind s m := by unfold tadUpdate; split <;> rfl
  linkRing s h1d := by rw [tadUpdate, if_neg (ne_true_of_eq_false h1d)]

/-- TAD with the option: the straps that the operand fetch leaves are those it started with. -/
theorem operand_addWithLink {s : State} (h1d : s.straps.opt1d = true) (ind : Bool) (y : BitVec 12) :
    ((Machine.operand ind y s).andThen fun t => .ok (addWithLink t)) =
      (Machine.operand ind y s).andThen fun t => .ok (tadUpdate t) := by
  have hleaves := operand_leaves ind y s
  cases hop : Machine.operand ind y s with
  | ok t =>
    rw [hop] at hleaves
    have hstraps : t.straps = s.straps := (congrArg State.straps (hleaves : SameButLatches s t) :)
    simp [tadUpdate, hstraps, h1d]
  | trap t => rfl
  | stop k t => rfl
  | refused k => rfl

theorem specialOperate_registers (bits : BitVec 13) :
    RegisterUpdate fun s => if s.straps.opt1d then specialOperate bits s else s where
  frame s := by
    split
    · unfold specialOperate
      split
      · rfl
      · dsimp only
        rw [State.skipIf_eq]
    · rfl
  blind s m := by
    dsimp only
    split
    · unfold specialOperate
      split
      · rfl
      · dsimp only
        rw [State.skipIf_eq, State.skipIf_eq]
    · rfl
  linkRing s h1d := by rw [if_neg (ne_true_of_eq_false h1d)]

theorem shiftAc (p : Word → Nat → Word) (code : BitVec 9) : Program w (Machine.shiftAc p code) :=
  .update ⟨fun _ => rfl, fun _ _ => rfl, fun _ _ => rfl⟩

theorem shiftIo (p : Word → Nat → Word) (code : BitVec 9) : Program w (Machine.shiftIo p code) :=
  .update ⟨fun _ => rfl, fun _ _ => rfl, fun _ _ => rfl⟩

theorem shiftPair (p : Word → Word → Nat → Word × Word) (code : BitVec 9) : Program w (Machine.shiftPair p code) :=
  .update ⟨fun _ => rfl, fun _ _ => rfl, fun _ _ => rfl⟩

theorem divide_registers : RegisterUpdate divide := by
  have hquotient (p : Word → Word → Word → Word × Word) : RegisterUpdate fun t => { t with
      ac := (p t.ac t.io t.mb).1, io := (p t.ac t.io t.mb).2, pc := incrAddr t.pc } :=
    ⟨fun _ => rfl, fun _ _ => rfl, fun _ _ => rfl⟩
  exact (RegisterUpdate.ite (c := fun t => divOverflows t.ac t.mb) (fun _ _ => rfl) .id
    (hquotient divResult)).of_eq fun _ => rfl

end Program

/-! ### Every instruction is an XCT, an I/O transfer or a program -/

/-- The instructions that may store to memory, the I/O transfers and XCT aside. -/
def storesToMemory : Instr → Bool
  | .lch _ _ | .dch _ _ | .cal _ | .jda _ | .dac _ _ | .dap _ _ | .dip _ _ | .dio _ _ | .dzm _ _ => true
  | .idx _ _ | .isp _ _ => true
  | _ => false

/-- The meaning of an instruction is a program that stores only if the instruction may. -/
def HasProgram (i : Instr) : Prop := ∃ f, Program (storesToMemory i) f ∧ ∀ s, exec i s = (f s).finish

theorem instr_cases (i : Instr) : (∃ ind y, i = .xct ind y) ∨ (waitBit i).isSome = true ∨ HasProgram i := by
  cases i with
  | xct ind y => exact .inl ⟨ind, y, rfl⟩
  | rngClr | rngSet | rtb | dsc | asc | isb | cac | lsm | esm | cbs | lrm | erm | rnm | rsm | lem | eem | iot =>
    exact .inr (.inl rfl)
  | undef0 | sftUndef00 | sftUndef04 | sftUndef10 | sftUndef14 => exact .inr (.inr ⟨_, .undefined, fun _ => rfl⟩)
  | and ind y | ior ind y | xor ind y => exact .inr (.inr ⟨_, .acWithOperand _ ind y, fun _ => rfl⟩)
  | mul ind y | mus ind y | dis ind y => exact .inr (.inr ⟨_, .pairWithOperand _ ind y, fun _ => rfl⟩)
  | lac ind y =>
    exact .inr (.inr ⟨_, .operandThen (u := fun t => { t with ac := t.mb }) ind y
      ⟨fun _ => rfl, fun _ _ => rfl, fun _ _ => rfl⟩, fun _ => rfl⟩)
  | lio ind y =>
    exact .inr (.inr ⟨_, .operandThen (u := fun t => { t with io := t.mb }) ind y
      ⟨fun _ => rfl, fun _ _ => rfl, fun _ _ => rfl⟩, fun _ => rfl⟩)
  | add ind y =>
    exact .inr (.inr ⟨_, .operandThen
      (u := fun t => { t with ac := addResult t.ac t.mb, ov := t.ov || addSetsOv t.ac t.mb }) ind y
      ⟨fun _ => rfl, fun _ _ => rfl, fun _ _ => rfl⟩, fun _ => rfl⟩)
  | sub ind y =>
    exact .inr (.inr ⟨_, .operandThen
      (u := fun t => { t with ac := subResult t.ac t.mb, ov := t.ov || subSetsOv t.ac t.mb }) ind y
      ⟨fun _ => rfl, fun _ _ => rfl, fun _ _ => rfl⟩, fun _ => rfl⟩)
  | sad ind y | sas ind y => exact .inr (.inr ⟨_, .operandThen ind y (.skipIf fun _ _ => rfl), fun _ => rfl⟩)
  | div ind y => exact .inr (.inr ⟨_, .operandThen ind y Program.divide_registers, fun _ => rfl⟩)
  | tad ind y =>
    refine .inr (.inr ⟨_, .pdp1d (.operandThen ind y Program.tadUpdate_registers), fun s => ?_⟩)
    show (if s.straps.opt1d then _ else _ : Res).finish = _
    split
    next h1d => rw [Program.operand_addWithLink h1d]
    next => rfl
  | idx ind y => exact .inr (.inr ⟨_, .indexMemory ind y, fun _ => rfl⟩)
  | isp ind y =>
    exact .inr (.inr ⟨_, .seq (.indexMemory ind y) (.update (.skipIf (c := fun t => !signOf t.ac) fun _ _ => rfl)),
      fun _ => rfl⟩)
  | dac ind y | dio ind y | dzm ind y => exact .inr (.inr ⟨_, .storeValue (fun _ _ => rfl) ind y, fun _ => rfl⟩)
  | dap ind y | dip ind y => exact .inr (.inr ⟨_, .storeMerged (fun _ _ => rfl) ind y, fun _ => rfl⟩)
  | cal y | jda y => exact .inr (.inr ⟨_, .callAt (fun _ _ => rfl), fun _ => rfl⟩)
  | lch auto y => exact .inr (.inr ⟨_, .pdp1d (.seq (.eaCh auto y) .loadCharacter), fun _ => rfl⟩)
  | dch auto y => exact .inr (.inr ⟨_, .pdp1d (.seq (.eaCh auto y) .depositCharacter), fun _ => rfl⟩)
  | jmp ind y => exact .inr (.inr ⟨_, .jump ind y, fun _ => rfl⟩)
  | jmpDismiss l =>
    exact .inr (.inr ⟨_, .ite (c := dismisses l) (fun _ _ => rfl) (.dismiss l) (.jump true (dismissalY l)), fun _ => rfl⟩)
  | jsp ind y =>
    exact .inr (.inr ⟨_, .seq (.ea ind y) (.update (g := fun t => { t with ac := epcWord t, pc := t.ma })
      ⟨fun _ => rfl, fun _ _ => rfl, fun _ _ => rfl⟩), fun _ => rfl⟩)
  | skp b =>
    refine .inr (.inr ⟨_, .update (g := fun s => { s with
      pc := if xor (skipTests b s) b.inv then incrAddr s.pc else s.pc, ov := s.ov && !b.szo })
      ⟨fun _ => rfl, fun _ _ => rfl, fun _ _ => rfl⟩, fun s => ?_⟩)
    show (Res.ok { s.skipIf _ with ov := _ }).finish = _
    rw [State.skipIf_eq]
  | law c n => exact .inr (.inr ⟨_, .update (g := fun s => { s with ac := lawLiteral c n })
      ⟨fun _ => rfl, fun _ _ => rfl, fun _ _ => rfl⟩, fun _ => rfl⟩)
  | ral code | sal code | rar code | sar code => exact .inr (.inr ⟨_, .shiftAc _ code, fun _ => rfl⟩)
  | ril code | sil code | rir code | sir code => exact .inr (.inr ⟨_, .shiftIo _ code, fun _ => rfl⟩)
  | rcl code | scl code | rcr code | scr code => exact .inr (.inr ⟨_, .shiftPair _ code, fun _ => rfl⟩)
  | spc bits =>
    refine .inr (.inr ⟨_, .pdp1d (.update (Program.specialOperate_registers bits)), fun s => ?_⟩)
    show (if s.straps.opt1d then _ else _ : Res).finish = _
    split <;> rfl
  | opr b =>
    refine .inr (.inr ⟨_, .ite (c := fun _ => b.hlt) (fun _ _ => rfl) (.after (.operate b) .halt)
      (.update (.operate b)), fun _ => rfl⟩)

end Sys2Proof.Machine
end

section
/-! The chain of XCT (`40_logical_xct.md` R89) as a re-entry of `exec`, the induction over all instructions that it gives,
and what a program leaves unchanged. -/

namespace Sys2Proof.Machine

/-! ### XCT re-enters exec -/

/-- The state in which the word in MB is dispatched (R89). -/
def enterXct (t : State) : State := { t with xctCount := t.xctCount + 1, ir := t.mb }

/-- With the nesting that is left, the dispatch of XCT is `exec`. -/
theorem dispatchExecuted_eq_exec {n : Nat} {s : State} (hn : n = s.straps.xctMax - s.xctCount) (i : Instr) :
    dispatchExecuted (execXctFrom n) i s = exec i s := by
  cases i with
  | xct ind y => rw [hn]; rfl
  | _ => rfl

theorem exec_xct_exhausted {s : State} (h : s.straps.xctMax ≤ s.xctCount) (ind : Bool) (y : BitVec 12) :
    exec (.xct ind y) s = .next (s.stopWith .xct) := by
  show execXctFrom (s.straps.xctMax - s.xctCount) ind y s = _
  rw [Nat.sub_eq_zero_of_le h]
  rfl

/-- An XCT with nesting left, its recursion unfolded once. -/
theorem exec_xct_of_lt {s : State} (h : s.xctCount < s.straps.xctMax) (ind : Bool) (y : BitVec 12) :
    exec (.xct ind y) s = execXctFrom (s.straps.xctMax - (s.xctCount + 1) + 1) ind y s := by
  show execXctFrom (s.straps.xctMax - s.xctCount) ind y s = _
  congr 1
  omega

theorem exec_xct_reenters {ind : Bool} {y : BitVec 12} {s t : State} (h : s.xctCount < s.straps.xctMax)
    (hop : operand ind y s = .ok t) : exec (.xct ind y) s = exec (decode t.straps.mdv t.mb) (enterXct t) := by
  have hleaves := operand_leaves ind y s
  rw [hop] at hleaves
  have hstraps : t.straps = s.straps := (congrArg State.straps (hleaves : SameButLatches s t) :)
  have hcount : t.xctCount = s.xctCount := (congrArg State.xctCount (hleaves : SameButLatches s t) :)
  rw [exec_xct_of_lt h, execXctFrom, hop]
  exact dispatchExecuted_eq_exec (s := enterXct t) (by simp [enterXct, hstraps, hcount]) _

theorem exec_xct_noOperand {ind : Bool} {y : BitVec 12} {s : State} (h : s.xctCount < s.straps.xctMax)
    (hop : ∀ t, operand ind y s ≠ .ok t) : exec (.xct ind y) s = (operand ind y s).finish := by
  rw [exec_xct_of_lt h, execXctFrom]
  cases hr : operand ind y s with
  | ok t => exact absurd hr (hop t)
  | trap t => rfl
  | stop k t => rfl
  | refused k => rfl

/-- All an XCT can do: stop at once, end as its operand fetch does, or run the word that it read. -/
theorem exec_xct_cases (ind : Bool) (y : BitVec 12) (s : State) :
    (s.straps.xctMax ≤ s.xctCount ∧ exec (.xct ind y) s = .next (s.stopWith .xct)) ∨
    (s.xctCount < s.straps.xctMax ∧ (∀ t, operand ind y s ≠ .ok t) ∧
      exec (.xct ind y) s = (operand ind y s).finish) ∨
    (∃ t, s.xctCount < s.straps.xctMax ∧ operand ind y s = .ok t ∧
      exec (.xct ind y) s = exec (decode t.straps.mdv t.mb) (enterXct t)) := by
  rcases Nat.lt_or_ge s.xctCount s.straps.xctMax with h | h
  · by_cases hop : ∃ t, operand ind y s = .ok t
    · obtain ⟨t, ht⟩ := hop
      exact .inr (.inr ⟨t, h, ht, exec_xct_reenters h ht⟩)
    · have hno : ∀ t, operand ind y s ≠ .ok t := fun t ht => hop ⟨t, ht⟩
      exact .inr (.inl ⟨h, hno, exec_xct_noOperand h hno⟩)
  · exact .inl ⟨h, exec_xct_exhausted h ind y⟩

/-- Induction over what an instruction runs: programs and I/O transfers at once, an XCT after the word it reads. -/
theorem exec_induction {P : Instr → State → Prop} (program : ∀ i s, HasProgram i → P i s)
    (transfer : ∀ i s, (waitBit i).isSome = true → P i s)
    (xct : ∀ ind y s, (∀ t, s.xctCount < s.straps.xctMax → operand ind y s = .ok t →
      P (decode t.straps.mdv t.mb) (enterXct t)) → P (.xct ind y) s) (i : Instr) (s : State) : P i s := by
  induction hn : s.straps.xctMax - s.xctCount generalizing i s with
  | zero =>
    rcases instr_cases i with ⟨ind, y, rfl⟩ | hio | hprog
    · exact xct ind y s fun t hlt _ => by omega
    · exact transfer i s hio
    · exact program i s hprog
  | succ n ih =>
    rcases instr_cases i with ⟨ind, y, rfl⟩ | hio | hprog
    · refine xct ind y s fun t _ hop => ih _ _ ?_
      have hleaves := operand_leaves ind y s
      rw [hop] at hleaves
      have hstraps : t.straps = s.straps := (congrArg State.straps (hleaves : SameButLatches s t) :)
      have hcount : t.xctCount = s.xctCount := (congrArg State.xctCount (hleaves : SameButLatches s t) :)
      show t.straps.xctMax - (t.xctCount + 1) = n
      rw [hstraps, hcount]
      omega
    · exact transfer i s hio
    · exact program i s hprog

/-- The same for a property of the state and the outcome that the entry of an XCT chain gives back. -/
theorem exec_outcome_induction {P : State → Host.Outcome State Fault Refusal → Prop}
    (program : ∀ w f s, Program w f → P s (f s).finish)
    (transfer : ∀ i s, (waitBit i).isSome = true → P s (exec i s))
    (exhausted : ∀ s, P s (.next (s.stopWith .xct)))
    (reenter : ∀ ind y s t o, operand ind y s = .ok t → P (enterXct t) o → P s o) (i : Instr) (s : State) :
    P s (exec i s) := by
  refine exec_induction (P := fun i s => P s (exec i s)) ?_ transfer ?_ i s
  · rintro i s ⟨f, hf, heq⟩
    rw [heq]
    exact program _ f s hf
  · intro ind y s ih
    rcases exec_xct_cases ind y s with ⟨-, heq⟩ | ⟨-, -, heq⟩ | ⟨t, hlt, hop, heq⟩ <;> rw [heq]
    · exact exhausted s
    · exact program true _ s (.operand ind y)
    · exact reenter ind y s t _ hop (ih t hlt hop)

/-! ### What a program leaves -/

/-- The states that differ from `s` only in what a program may write: the registers, the levels left, the trap buffer
and memory. -/
def ProgramFrame (s t : State) : Prop := t = { s with
  ac := t.ac, io := t.io, pc := t.pc, ma := t.ma, mb := t.mb, ov := t.ov, pf := t.pf, extm := t.extm
  sbs := { s.sbs with ip := t.sbs.ip }, sbsAct := t.sbsAct, sbsLvl := t.sbsLvl, rtb := t.rtb, mem := t.mem }

theorem ProgramFrame.trans {s t u : State} (h : ProgramFrame s t) (h' : ProgramFrame t u) : ProgramFrame s u := by
  unfold ProgramFrame at *
  rw [h'] at *
  rw [h]

theorem RegisterUpdate.programFrame {g : State → State} (hg : RegisterUpdate g) (s : State) : ProgramFrame s (g s) := by
  unfold ProgramFrame
  rw [hg.frame s]

theorem leaveLevel_programFrame (l : BitVec 4) (s : State) : ProgramFrame s (leaveLevel l s) := by
  unfold leaveLevel
  split <;> rfl

/-- A program, however it ends, writes nothing outside its frame. -/
theorem Program.leaves {w : Bool} {f : State → Res} (hf : Program w f) (s : State) : (f s).Leaves (ProgramFrame s) := by
  induction hf generalizing s with
  | update hg => exact hg.programFrame s
  | leave l => exact leaveLevel_programFrame l s
  | read => exact (readWord_leaves s).mono fun t ht => by rw [ht]; rfl
  | write => exact (writeWord_leaves s).mono fun t ht => by rw [ht]; rfl
  | seq _ _ ihf ihg => exact (ihf s).andThen fun t _ ht => (ihg t).mono fun u hu => ht.trans hu
  | depend _ _ ih => exact ih _ s
  | tooLong => rfl
  | undefined =>
    rcases undefinedInstruction_cases s with ⟨-, h⟩ | ⟨-, -, h⟩ | ⟨-, -, h⟩ <;> rw [h] <;> rfl
  | halt =>
    unfold haltOp violate
    split <;> rfl
  | pageCross _ ih =>
    dsimp only
    split
    · rfl
    · exact ih s

/-- A program that does not store leaves memory alone. -/
theorem Program.mem_eq {f : State → Res} (hf : Program false f) (s : State) :
    (f s).Leaves fun t => t.mem = s.mem := by
  induction hf generalizing s with
  | update hg => exact hg.mem_eq s
  | leave l =>
    show (leaveLevel l s).mem = s.mem
    unfold leaveLevel
    split <;> rfl
  | read => exact (readWord_leaves s).mono fun t ht => (congrArg State.mem ht :)
  | write htrue => exact absurd htrue Bool.false_ne_true
  | seq _ _ ihf ihg => exact (ihf s).andThen fun t _ ht => (ihg t).mono fun u hu => hu.trans ht
  | depend _ _ ih => exact ih _ s
  | tooLong => rfl
  | undefined =>
    rcases undefinedInstruction_cases s with ⟨-, h⟩ | ⟨-, -, h⟩ | ⟨-, -, h⟩ <;> rw [h] <;> rfl
  | halt =>
    unfold haltOp violate
    split <;> rfl
  | pageCross _ ih =>
    dsimp only
    split
    · rfl
    · exact ih s

/-- No program is refused. -/
theorem Program.ne_refused {w : Bool} {f : State → Res} (hf : Program w f) (s : State) (k : Refusal) :
    f s ≠ .refused k := by
  induction hf generalizing s with
  | update | leave | tooLong => exact Res.noConfusion
  | read | write => simp only [readWord, writeWord, violate]; split <;> simp
  | @seq f g _ _ ihf ihg =>
    dsimp only
    cases h : f s with
    | ok t => exact ihg t
    | refused k' => exact fun hk => ihf s (h.trans hk)
    | _ => exact Res.noConfusion
  | depend _ _ ih => exact ih _ s
  | undefined => simp only [undefinedInstruction, violate]; split <;> (try split) <;> simp
  | halt => simp only [haltOp, violate]; split <;> simp
  | pageCross _ ih =>
    dsimp only
    split
    · simp [violate]
    · exact ih s

end Sys2Proof.Machine
end

section
/-! The invariant of the machine (O10, O11) and the straps of a running machine (O12): what each operation keeps, then
the I/O transfers, the instructions, the hook, the entry of a break, the console. -/

namespace Sys2Proof.InvariantProofs
open Sys2Proof.Machine

/-! ### What the invariant speaks of -/

/-- All of the state that the invariant speaks of but PF. -/
def invariantPart (s : State) :=
  (s.straps, s.mem, s.sbsReq, s.sbsEnb, s.sbsAct, s.sbsLvl, s.rm, s.rname, s.cpls)

theorem inv_congr {s t : State} (h : Inv s) (heq : invariantPart t = invariantPart s)
    (hpf : s.straps.opt1d = false → t.pf &&& 0o300#8 = s.pf &&& 0o300#8) : Inv t := by
  simp only [invariantPart, Prod.mk.injEq] at heq
  obtain ⟨hstraps, hmem, hreq, henb, hact, hlvl, hrm, hname, hcpls⟩ := heq
  exact {
    strapsWf := by rw [hstraps]; exact h.strapsWf
    memCanonical := by rw [hmem]; exact h.memCanonical
    memInside := by rw [hmem, hstraps]; exact h.memInside
    latch := by rw [hlvl, hreq, hact]; exact h.latch
    restrict := by rw [hrm, hstraps]; exact h.restrict
    noLinkRing := by rw [hstraps]; exact fun h1d => (hpf h1d).trans (h.noLinkRing h1d)
    noLevels := by rw [hstraps, hreq, henb, hact]; exact h.noLevels
    rename := by rw [hname]; exact h.rename
    cplsNodup := by rw [hcpls]; exact h.cplsNodup }

theorem inv_store {s : State} (h : Inv s) (a : Addr) (v : Word) : Inv (s.store a v) where
  strapsWf := h.strapsWf
  memCanonical := State.stored_wf a v h.memCanonical
  memInside c hc := by
    change c ∈ s.stored a v at hc
    unfold State.stored at hc
    split at hc
    next hlt =>
      rcases Memory.mem_set hc with rfl | hc
      · exact hlt
      · exact h.memInside c hc
    next => exact h.memInside c hc
  latch := h.latch
  restrict := h.restrict
  noLinkRing := h.noLinkRing
  noLevels := h.noLevels
  rename := h.rename
  cplsNodup := h.cplsNodup

theorem rm_of_restricted {s : State} (h : restricted s = true) : s.rm = true :=
  (Bool.and_eq_true _ _ ▸ h : s.rm = true ∧ _).1

/-- A redirect comes from restrict mode only, so the controller that takes its request is there (R8, R183). -/
theorem inv_trapRedirect {s : State} (h : Inv s) (hrm : s.rm = true) : Inv (trapRedirect s) where
  strapsWf := h.strapsWf
  memCanonical := h.memCanonical
  memInside := h.memInside
  latch := rfl
  restrict := h.restrict
  noLinkRing := h.noLinkRing
  noLevels hsbs := absurd (h.restrict hrm).2 (ne_true_of_eq_false hsbs)
  rename := h.rename
  cplsNodup := h.cplsNodup

theorem inv_leaveLevel {s : State} (h : Inv s) (l : BitVec 4) : Inv (leaveLevel l s) := by
  unfold leaveLevel
  split
  next hsbs => exact {
    h with
    latch := rfl
    noLevels := fun hno => absurd hsbs (ne_true_of_eq_false hno) }
  next => exact inv_congr h rfl fun _ => rfl

/-! ### Operations that keep it -/

/-- An operation keeps the invariant: however it ends, and it traps in restrict mode only. -/
def KeepsInv : Res → Prop
  | .ok t => Inv t
  | .trap t => Inv t ∧ t.rm = true
  | .stop _ t => Inv t
  | .refused _ => True

theorem KeepsInv.andThen {r : Res} {f : State → Res} (hr : KeepsInv r) (hf : ∀ t : State, Inv t → KeepsInv (f t)) :
    KeepsInv (r.andThen f) := by
  cases r with
  | ok t => exact hf t hr
  | trap t => exact hr
  | stop k t => exact hr
  | refused k => trivial

theorem KeepsInv.finish {r : Res} {t : State} (hr : KeepsInv r) (h : r.finish = .next t) : Inv t := by
  rcases Res.finish_eq_next h with rfl | ⟨u, rfl, rfl⟩ | ⟨k, u, rfl, rfl⟩
  · exact hr
  · exact inv_trapRedirect hr.1 hr.2
  · exact inv_congr hr rfl fun _ => rfl

theorem keepsInv_violate {s : State} (h : Inv s) (hr : restricted s = true) (c : Cause) : KeepsInv (violate c s) :=
  ⟨inv_congr h rfl fun _ => rfl, rm_of_restricted hr⟩

theorem restricted_of_violation {s : State} {a : Addr} (h : violation s a = true) : restricted s = true :=
  (Bool.and_eq_true _ _ ▸ h : restricted s = true ∧ _).1

theorem keepsInv_readWord {s : State} (h : Inv s) : KeepsInv (readWord s) := by
  unfold readWord
  split
  next hv => exact keepsInv_violate h (restricted_of_violation hv) _
  next => exact inv_congr h rfl fun _ => rfl

theorem keepsInv_writeWord {s : State} (h : Inv s) : KeepsInv (writeWord s) := by
  unfold writeWord
  split
  next hv => exact keepsInv_violate h (restricted_of_violation hv) _
  next => exact inv_store h s.ma s.mb

theorem keepsInv_undefinedInstruction {s : State} (h : Inv s) : KeepsInv (undefinedInstruction s) := by
  rcases undefinedInstruction_cases s with ⟨hr, heq⟩ | ⟨-, -, heq⟩ | ⟨-, -, heq⟩ <;> rw [heq]
  · exact keepsInv_violate h hr .ill
  · exact h
  · exact h

theorem inv_registerUpdate {g : State → State} (hg : RegisterUpdate g) {s : State} (h : Inv s) : Inv (g s) :=
  inv_congr h (by rw [hg.frame s]; rfl) (hg.linkRing s)

theorem keepsInv_program {w : Bool} {f : State → Res} (hf : Program w f) {s : State} (h : Inv s) : KeepsInv (f s) := by
  induction hf generalizing s with
  | update hg => exact inv_registerUpdate hg h
  | leave l => exact inv_leaveLevel h l
  | read => exact keepsInv_readWord h
  | write => exact keepsInv_writeWord h
  | seq _ _ ihf ihg => exact (ihf h).andThen fun t ht => ihg ht
  | depend _ _ ih => exact ih _ h
  | tooLong => exact h
  | undefined => exact keepsInv_undefinedInstruction h
  | halt =>
    unfold haltOp
    split
    next hr => exact keepsInv_violate h hr _
    next => exact h
  | pageCross _ ih =>
    dsimp only
    split
    next hr => exact keepsInv_violate h hr _
    next => exact ih h

/-! ### Ports -/

theorem nodup_oweCompletion {d : BitVec 6} {ds : List (BitVec 6)} (h : ds.Nodup) : (oweCompletion d ds).Nodup := by
  unfold oweCompletion
  split
  next => exact h
  next hd => exact List.nodup_cons.mpr ⟨fun hmem => hd (List.contains_iff_mem.mpr hmem), h⟩

/-- The invariant up to the latch: it holds once the masks are evaluated. -/
def InvEvaluated (s : State) : Prop := Inv s.evalBreaks

theorem invEvaluated_of_inv {s : State} (h : Inv s) : InvEvaluated s where
  strapsWf := h.strapsWf
  memCanonical := h.memCanonical
  memInside := h.memInside
  latch := rfl
  restrict := h.restrict
  noLinkRing := h.noLinkRing
  noLevels := h.noLevels
  rename := h.rename
  cplsNodup := h.cplsNodup

/-- A request is posted only where the 16-channel controller is (R176). -/
theorem invEvaluated_setRequest {s : State} (h : InvEvaluated s) (hsbs : s.straps.sbs16 = true) (req : BitVec 16) :
    InvEvaluated { s with sbsReq := req } :=
  { h with
    latch := rfl
    noLevels := fun hno => absurd hsbs (ne_true_of_eq_false hno) }

theorem invEvaluated_portAction {s : State} (h : InvEvaluated s) (a : PortAction) : InvEvaluated (portAction a s) := by
  cases a with
  | breakRequest l =>
    show InvEvaluated (breakRequest l s)
    unfold breakRequest
    split
    next hsbs =>
      split
      · exact invEvaluated_setRequest h hsbs _
      · exact h
    next => exact inv_congr h rfl fun _ => rfl
  | dmaWrite a v => exact inv_store h a v
  | dmaRead a => exact h
  | complete d => exact { h with cplsNodup := h.cplsNodup.erase d }
  | owe d => exact { h with cplsNodup := nodup_oweCompletion h.cplsNodup }

theorem invEvaluated_portActions {s : State} (h : InvEvaluated s) (as : List PortAction) :
    InvEvaluated (portActions as s) := by
  induction as generalizing s with
  | nil => exact h
  | cons a as ih => exact ih (invEvaluated_portAction h a)

theorem invEvaluated_startDevice {s : State} (h : InvEvaluated s) (asks : Bool) (dev : BitVec 6) :
    InvEvaluated (startDevice asks dev s) := by
  unfold startDevice
  split
  · exact { h with cplsNodup := nodup_oweCompletion h.cplsNodup }
  · exact h

/-! ### I/O transfers -/

theorem inv_startWait {s : State} (h : Inv s) (w : Bool) : Inv (startWait w s) := by
  rw [startWait_eq]
  exact inv_congr h rfl fun _ => rfl

theorem inv_takeAnswer {s : State} (h : Inv s) : Inv (takeAnswer s) := by
  unfold takeAnswer
  split <;> exact inv_congr h rfl fun _ => rfl

theorem inv_acceptedCall {s : State} (h : Inv s) (a : DevAnswer) (w c : Bool) (dev : BitVec 6) :
    Inv (acceptAnswer a (deviceActs a w c dev s)) := by
  have hstarted := invEvaluated_startDevice (invEvaluated_of_inv h) (a.starts && xor w c) dev
  have hacts : InvEvaluated (deviceActs a w c dev s) := invEvaluated_portActions hstarted a.ports
  unfold acceptAnswer
  rw [State.skipIf_eq]
  exact inv_congr hacts rfl fun _ => rfl

theorem keepsInv_deviceCall {s : State} (h : Inv s) (w c : Bool) (dev : BitVec 6) : KeepsInv (deviceCall w c dev s) := by
  have htaken := inv_takeAnswer h
  unfold deviceCall
  dsimp only
  split
  next => exact keepsInv_undefinedInstruction htaken
  next =>
    have hcalled : Inv { startWait w (takeAnswer s) with lastCall := some ⟨s.ir, dev, s.io⟩ } :=
      inv_congr (inv_startWait htaken w) rfl fun _ => rfl
    have haccepted := inv_acceptedCall hcalled (nextAnswer s) w c dev
    unfold forcedStop
    split <;> exact haccepted

theorem keepsInv_waitOn {s : State} (h : Inv s) : KeepsInv (waitOn s) := by
  rcases waitOn_cases s with ⟨-, heq⟩ | ⟨-, -, heq⟩ | ⟨-, -, heq⟩ <;> rw [heq] <;>
    exact inv_congr h rfl fun _ => rfl

theorem keepsInv_iotIssue {s : State} (h : Inv s) {answer : State → Res} (ha : KeepsInv (answer s)) (w : Bool) :
    KeepsInv (iotIssue w answer s) := by
  unfold iotIssue
  split
  next hr => exact keepsInv_violate h hr .iot
  next =>
    split
    · exact keepsInv_waitOn h
    · exact ha

/-- A pulse whose update keeps all that the invariant speaks of but the latch. -/
theorem keepsInv_corePulse {s : State} (h : Inv s) {u : State → State} (w : Bool)
    (hu : ∀ t : State, t.straps = s.straps → Inv t → InvEvaluated (u t)) : KeepsInv (corePulse w u s) :=
  hu (startWait w s) (by rw [startWait_eq]) (inv_startWait h w)

/-! ### The configuration -/

/-- What only the console changes: the straps, the configured unit flag, its own list of commands. -/
def SameConfig (s t : State) : Prop :=
  t.straps = s.straps ∧ t.unitSbs16 = s.unitSbs16 ∧ t.console = s.console

theorem SameConfig.refl (s : State) : SameConfig s s := ⟨rfl, rfl, rfl⟩

theorem SameConfig.trans {s t u : State} (h : SameConfig s t) (h' : SameConfig t u) : SameConfig s u :=
  ⟨h'.1.trans h.1, h'.2.1.trans h.2.1, h'.2.2.trans h.2.2⟩

theorem sameConfig_of_programFrame {s t : State} (h : ProgramFrame s t) : SameConfig s t := by
  rw [h]
  exact SameConfig.refl s

theorem sameConfig_portActions (as : List PortAction) (s : State) : SameConfig s (portActions as s) := by
  rw [portActions_leaves as s]
  exact SameConfig.refl s

theorem sameConfig_startWait (w : Bool) (s : State) : SameConfig s (startWait w s) := by
  cases w <;> exact SameConfig.refl s

theorem sameConfig_finish {s t : State} {r : Res} (hr : r.Leaves (SameConfig s)) (h : r.finish = .next t) :
    SameConfig s t := by
  rcases Res.finish_eq_next h with rfl | ⟨u, rfl, rfl⟩ | ⟨k, u, rfl, rfl⟩
  · exact hr
  · exact hr
  · exact hr

theorem leaves_config_corePulse {u : State → State} (hu : ∀ s, SameConfig s (u s)) (w : Bool) (s : State) :
    (corePulse w u s).Leaves (SameConfig s) :=
  (sameConfig_startWait w s).trans (hu _)

theorem leaves_config_undefinedInstruction (s : State) : (undefinedInstruction s).Leaves (SameConfig s) :=
  (Program.leaves (w := false) .undefined s).mono fun _ ht => sameConfig_of_programFrame ht

theorem sameConfig_takeAnswer (s : State) : SameConfig s (takeAnswer s) := by
  unfold takeAnswer
  split <;> exact SameConfig.refl s

theorem sameConfig_acceptedCall (a : DevAnswer) (w c : Bool) (dev : BitVec 6) (s : State) :
    SameConfig s (acceptAnswer a (deviceActs a w c dev s)) := by
  have hstarted (asks : Bool) : SameConfig s (startDevice asks dev s) := by
    cases asks <;> exact SameConfig.refl s
  have hacts : SameConfig s (deviceActs a w c dev s) :=
    (hstarted (a.starts && xor w c)).trans (sameConfig_portActions a.ports _)
  unfold acceptAnswer
  rw [State.skipIf_eq]
  exact hacts

theorem leaves_config_deviceCall (w c : Bool) (dev : BitVec 6) (s : State) :
    (deviceCall w c dev s).Leaves (SameConfig s) := by
  have htaken := sameConfig_takeAnswer s
  unfold deviceCall
  dsimp only
  split
  next => exact (leaves_config_undefinedInstruction _).mono fun _ ht => htaken.trans ht
  next =>
    have hcalled : SameConfig s { startWait w (takeAnswer s) with lastCall := some ⟨s.ir, dev, s.io⟩ } :=
      htaken.trans (sameConfig_startWait w (takeAnswer s))
    have haccepted := hcalled.trans (sameConfig_acceptedCall (nextAnswer s) w c dev _)
    unfold forcedStop
    split <;> exact haccepted

theorem leaves_config_iotIssue {s : State} {answer : State → Res} (ha : (answer s).Leaves (SameConfig s)) (w : Bool) :
    (iotIssue w answer s).Leaves (SameConfig s) := by
  unfold iotIssue
  split
  · exact SameConfig.refl s
  · split
    · rcases waitOn_cases s with ⟨-, heq⟩ | ⟨-, -, heq⟩ | ⟨-, -, heq⟩ <;> rw [heq] <;> exact SameConfig.refl s
    · exact ha

/-! ### The answer of each I/O transfer -/

/-- An answer to an I/O transfer that keeps the invariant and the configuration. -/
structure IsAnswer (answer : State → Res) : Prop where
  inv : ∀ s : State, Inv s → KeepsInv (answer s)
  config : ∀ s, (answer s).Leaves (SameConfig s)

theorem isAnswer_deviceCall (w c : Bool) (dev : BitVec 6) : IsAnswer (deviceCall w c dev) :=
  ⟨fun _ h => keepsInv_deviceCall h w c dev, leaves_config_deviceCall w c dev⟩

theorem isAnswer_undefined : IsAnswer undefinedInstruction :=
  ⟨fun _ h => keepsInv_undefinedInstruction h, leaves_config_undefinedInstruction⟩

/-- A code that has one answer with an option and another without it. -/
theorem isAnswer_option {has : State → Bool} {answer other : State → Res}
    (hinv : ∀ s : State, has s = true → Inv s → KeepsInv (answer s))
    (hconfig : ∀ s, (answer s).Leaves (SameConfig s)) (hother : IsAnswer other) :
    IsAnswer fun s => (if has s then answer else other) s where
  inv s h := by
    split
    next hs => exact hinv s hs h
    next => exact hother.inv s h
  config s := by
    split
    next => exact hconfig s
    next => exact hother.config s

theorem isAnswer_pulse {u : State → State} (w : Bool) (hinv : ∀ t : State, Inv t → InvEvaluated (u t))
    (hconfig : ∀ s, SameConfig s (u s)) : IsAnswer (corePulse w u) where
  inv _ h := keepsInv_corePulse h w fun t _ => hinv t
  config s := leaves_config_corePulse hconfig w s

/-- A pulse of the PDP-1D option or of the 16-channel controller, whose update may rest on the option. -/
theorem isAnswer_optionPulse {has : Straps → Bool} {u : State → State} {other : State → Res} (w : Bool)
    (hinv : ∀ t : State, has t.straps = true → Inv t → InvEvaluated (u t))
    (hconfig : ∀ s, SameConfig s (u s)) (hother : IsAnswer other) :
    IsAnswer fun s => (if has s.straps then corePulse w u else other) s :=
  isAnswer_option (has := fun s => has s.straps)
    (fun _ hs h => keepsInv_corePulse h w fun t hstraps => hinv t (hstraps ▸ hs))
    (leaves_config_corePulse hconfig w) hother

/-- A pulse on the masks, which needs the 16-channel controller. -/
theorem isAnswer_masks {u : State → State} (w : Bool)
    (hu : ∀ t, u t = { t with sbsReq := (u t).sbsReq, sbsEnb := (u t).sbsEnb }) :
    IsAnswer fun s => (if s.straps.sbs16 then corePulse w u else undefinedInstruction) s := by
  refine isAnswer_optionPulse (has := Straps.sbs16) w (fun t hsbs h => ?_) (fun s => ?_) isAnswer_undefined
  · rw [hu t]
    exact { h with latch := rfl, noLevels := fun hno => absurd hsbs (ne_true_of_eq_false hno) }
  · rw [hu s]
    exact SameConfig.refl s

theorem invEvaluated_setRing {t : State} (h1d : t.straps.opt1d = true) (h : Inv t) (b : Bool) :
    InvEvaluated (setRing b t) :=
  { h with
    latch := rfl
    noLinkRing := fun hno => absurd h1d (ne_true_of_eq_false hno) }

/-- Restrict mode is entered with both its options only (R8, R162). -/
theorem isAnswer_enterRestrict (w c : Bool) : IsAnswer fun s =>
    (if s.straps.opt1d then enterRestrictPulse w else deviceCall w c 0o65#6) s := by
  refine isAnswer_option (has := fun s => s.straps.opt1d) (fun s h1d h => ?_) (fun s => ?_) (isAnswer_deviceCall w c _)
  · unfold enterRestrictPulse
    split
    next hsbs =>
      refine keepsInv_corePulse h w fun t hstraps ht => { ht with latch := rfl, restrict := fun _ => ?_ }
      show t.straps.opt1d = true ∧ t.straps.sbs16 = true
      rw [hstraps]
      exact ⟨h1d, hsbs⟩
    next => trivial
  · unfold enterRestrictPulse
    split
    next => exact leaves_config_corePulse SameConfig.refl w s
    next => trivial

/-- Every I/O transfer is an issue of an answer that keeps the invariant and the configuration. -/
theorem transfer_isAnswer {i : Instr} {w : Bool} (hw : waitBit i = some w) :
    ∃ answer, IsAnswer answer ∧ ∀ s, exec i s = (iotIssue w answer s).finish := by
  cases i <;> simp only [waitBit, Option.some.injEq, reduceCtorEq] at hw <;> subst hw
  case rngClr w c sub | rngSet w c sub =>
    exact ⟨_, isAnswer_optionPulse (has := Straps.opt1d) (u := setRing _) w (fun t h1d h => invEvaluated_setRing h1d h _)
      SameConfig.refl (isAnswer_deviceCall w c _), fun _ => rfl⟩
  case rtb w c sub =>
    exact ⟨_, isAnswer_optionPulse (has := Straps.opt1d) (u := readTrapBuffer) w
      (fun t _ h => invEvaluated_of_inv (inv_congr h rfl fun _ => rfl)) SameConfig.refl isAnswer_undefined, fun _ => rfl⟩
  case dsc w c sub =>
    exact ⟨_, isAnswer_masks (u := disableChannel (channelOf sub)) w fun _ => rfl, fun _ => rfl⟩
  case asc w c sub =>
    exact ⟨_, isAnswer_masks (u := enableChannel (channelOf sub)) w fun _ => rfl, fun _ => rfl⟩
  case isb w c sub =>
    exact ⟨_, isAnswer_masks (u := initiateBreak (channelOf sub)) w fun _ => rfl, fun _ => rfl⟩
  case cac w c sub => exact ⟨_, isAnswer_masks (u := disableAll) w fun _ => rfl, fun _ => rfl⟩
  case lsm w c sub | esm w c sub | cbs w c sub | lem w sub | eem w sub =>
    refine ⟨_, ?_, fun _ => rfl⟩
    exact isAnswer_pulse w (fun t h => invEvaluated_of_inv (inv_congr h rfl fun _ => rfl)) SameConfig.refl
  case lrm w c sub =>
    exact ⟨_, isAnswer_optionPulse (has := Straps.opt1d) (u := leaveRestrict) w
      (fun t _ h => { h with latch := rfl, restrict := fun hrm => nomatch hrm })
      SameConfig.refl (isAnswer_deviceCall w c _), fun _ => rfl⟩
  case rsm w c sub =>
    exact ⟨_, isAnswer_optionPulse (has := Straps.opt1d) (u := resetRename) w
      (fun t _ h => { h with latch := rfl, rename := rfl }) SameConfig.refl (isAnswer_deviceCall w c _), fun _ => rfl⟩
  case erm w c sub => exact ⟨_, isAnswer_enterRestrict w c, fun _ => rfl⟩
  case rnm w c sub =>
    exact ⟨_, isAnswer_option (has := fun s => s.straps.opt1d) (answer := renamePulse) (fun _ _ _ => trivial)
      (fun _ => trivial) (isAnswer_deviceCall w c _), fun _ => rfl⟩
  case iot w c sub dev => exact ⟨_, isAnswer_deviceCall w c dev, fun _ => rfl⟩

/-! ### Instructions -/

theorem exec_keeps_inv (i : Instr) {s t : State} (h : Inv s) (hexec : exec i s = .next t) : Inv t := by
  refine exec_outcome_induction (P := fun s o => Inv s → ∀ t, o = .next t → Inv t) ?program ?transfer ?exhausted ?reenter
    i s h t hexec
  case program => exact fun w f s hf h t ht => (keepsInv_program hf h).finish ht
  case transfer =>
    intro i s hio h t ht
    obtain ⟨w, hw⟩ := Option.isSome_iff_exists.mp hio
    obtain ⟨answer, hanswer, heq⟩ := transfer_isAnswer hw
    rw [heq] at ht
    exact (keepsInv_iotIssue h (hanswer.inv s h) w).finish ht
  case exhausted =>
    rintro s h _ ⟨⟩
    exact inv_congr h rfl fun _ => rfl
  case reenter =>
    intro ind y s t o hop ih h
    have hoperand := keepsInv_program (w := true) (.operand ind y) h
    rw [hop] at hoperand
    exact ih (inv_congr hoperand rfl fun _ => rfl)

theorem exec_sameConfig (i : Instr) {s t : State} (hexec : exec i s = .next t) : SameConfig s t := by
  refine exec_outcome_induction (P := fun s o => ∀ t, o = .next t → SameConfig s t) ?program ?transfer ?exhausted
    ?reenter i s t hexec
  case program =>
    exact fun w f s hf t ht => sameConfig_finish ((hf.leaves s).mono fun _ => sameConfig_of_programFrame) ht
  case transfer =>
    intro i s hio t ht
    obtain ⟨w, hw⟩ := Option.isSome_iff_exists.mp hio
    obtain ⟨answer, hanswer, heq⟩ := transfer_isAnswer hw
    rw [heq] at ht
    exact sameConfig_finish (leaves_config_iotIssue (hanswer.config s) w) ht
  case exhausted =>
    rintro s _ ⟨⟩
    exact SameConfig.refl s
  case reenter =>
    intro ind y s t o hop ih u hu
    have hoperand := Program.leaves (w := true) (.operand ind y) s
    rw [hop] at hoperand
    exact (sameConfig_of_programFrame hoperand).trans (ih u hu)

/-! ### The hook -/

theorem invEvaluated_hookAction {s : State} (h : InvEvaluated s) (a : HookAction) : InvEvaluated (hookAction a s) := by
  cases a with
  | port p => exact invEvaluated_portAction h p
  | senseSwitches v => exact inv_congr h rfl fun _ => rfl
  | testWord v => exact inv_congr h rfl fun _ => rfl

/-- What the hook's actions leave alone: the configuration and the latch. -/
theorem hookActions_leave (as : List HookAction) (s : State) :
    let t := as.foldl (fun u a => hookAction a u) s
    SameConfig s t ∧ t.sbsLvl = s.sbsLvl := by
  refine List.foldlRecOn as (fun u a => hookAction a u) (motive := fun t => SameConfig s t ∧ t.sbsLvl = s.sbsLvl)
    ⟨SameConfig.refl s, rfl⟩ fun t ht a _ => ?_
  cases a with
  | port p =>
    show SameConfig s (portAction p t) ∧ (portAction p t).sbsLvl = _
    rw [portAction_leaves p t]
    exact ht
  | senseSwitches v => exact ht
  | testWord v => exact ht

/-- Without the 16-channel controller the masks are empty, so the latch needs no evaluation (R172). -/
theorem inv_of_invEvaluated {s t : State} (hs : Inv s) (ht : InvEvaluated t) (hsbs : t.straps.sbs16 = false)
    (hstraps : t.straps = s.straps) (hlvl : t.sbsLvl = s.sbsLvl) : Inv t := by
  obtain ⟨hreq, -, hact⟩ := ht.noLevels hsbs
  obtain ⟨hreq', -, hact'⟩ := hs.noLevels (hstraps ▸ hsbs)
  have hlatch : t.sbsLvl = sbsEval t.sbsReq t.sbsAct := by
    rw [hlvl, hs.latch, hreq', hact']
    exact congrArg₂ sbsEval hreq.symm hact.symm
  exact { ht with latch := hlatch }

theorem inv_runHook {s : State} (h : Inv s) : Inv (runHook s) := by
  have hstart : Inv { s with hooks := s.hooks.tail } := inv_congr h rfl fun _ => rfl
  have hacts : InvEvaluated ((nextHook s).actions.foldl (fun u a => hookAction a u) { s with hooks := s.hooks.tail }) :=
    List.foldlRecOn _ _ (motive := InvEvaluated) (invEvaluated_of_inv hstart) fun t ht a _ => invEvaluated_hookAction ht a
  obtain ⟨⟨hstraps, -, -⟩, hlvl⟩ := hookActions_leave (nextHook s).actions { s with hooks := s.hooks.tail }
  unfold runHook
  dsimp only
  split
  next => exact hacts
  next hno => exact inv_of_invEvaluated hstart hacts (eq_false_of_ne_true hno) hstraps hlvl

theorem sameConfig_runHook (s : State) : SameConfig s (runHook s) := by
  obtain ⟨hconfig, -⟩ := hookActions_leave (nextHook s).actions { s with hooks := s.hooks.tail }
  unfold runHook
  dsimp only
  split <;> exact hconfig

/-! ### Interrupt entry -/

theorem inv_takeRequest {s : State} (h : Inv s) : Inv (takeRequest s) := by
  unfold takeRequest
  split
  next hsbs => exact {
    h with
    latch := rfl
    noLevels := fun hno => absurd hsbs (ne_true_of_eq_false hno) }
  next => exact inv_congr h rfl fun _ => rfl

theorem keepsInv_writeAt {s : State} (h : Inv s) (a : Addr) (v : Word) : KeepsInv (writeAt a v s) :=
  keepsInv_writeWord (inv_congr h rfl fun _ => rfl)

theorem keepsInv_interruptEntry {s : State} (h : Inv s) : KeepsInv (interruptEntry s) :=
  (((keepsInv_writeAt (inv_takeRequest h) _ _).andThen fun _ h1 => keepsInv_writeAt h1 _ _).andThen
    fun _ h2 => keepsInv_writeAt h2 _ _).andThen fun _ h3 => inv_congr h3 rfl fun _ => rfl

theorem leaves_config_writeAt (a : Addr) (v : Word) (s : State) : (writeAt a v s).Leaves (SameConfig s) :=
  (writeWord_leaves _).mono fun t ht => by rw [ht]; exact SameConfig.refl s

theorem sameConfig_takeRequest (s : State) : SameConfig s (takeRequest s) := by
  unfold takeRequest
  split <;> exact SameConfig.refl s

theorem leaves_config_interruptEntry (s : State) : (interruptEntry s).Leaves (SameConfig s) := by
  have hwrite {s t : State} (h : SameConfig s t) (a : Addr) (v : Word) : (writeAt a v t).Leaves (SameConfig s) :=
    (leaves_config_writeAt a v t).mono fun _ => h.trans
  exact (((hwrite (sameConfig_takeRequest s) _ _).andThen fun _ _ h1 => hwrite h1 _ _).andThen
    fun _ _ h2 => hwrite h2 _ _).andThen fun _ _ h3 => h3

/-! ### The iteration -/

/-- What one iteration of a running machine is, case by case (R170). -/
theorem iteration_cases (s : State) :
    (∃ k, iteration s = .next ((runHook s).stopWith k)) ∨
    iteration s = (interruptEntry (runHook s)).finish ∨
    (∃ t, fetchRead (runHook s) = .ok t ∧ iteration s = exec (decode t.straps.mdv t.mb) (loadInstruction t)) ∨
    iteration s = (fetchRead (runHook s)).finish := by
  unfold iteration
  dsimp only
  split
  next k _ => exact .inl ⟨_, rfl⟩
  next =>
    split
    next => exact .inr (.inl rfl)
    next =>
      split
      next => exact .inl ⟨_, rfl⟩
      next =>
        unfold fetchAndExecute
        split
        next t ht => exact .inr (.inr (.inl ⟨t, ht, rfl⟩))
        next => exact .inr (.inr (.inr rfl))

theorem iteration_keeps_inv {s t : State} (h : Inv s) (hiter : iteration s = .next t) : Inv t := by
  have hhook := inv_runHook h
  have hfetch : KeepsInv (fetchRead (runHook s)) := keepsInv_readWord (inv_congr hhook rfl fun _ => rfl)
  rcases iteration_cases s with ⟨k, heq⟩ | heq | ⟨u, hu, heq⟩ | heq <;> rw [heq] at hiter
  · cases hiter
    exact inv_congr hhook rfl fun _ => rfl
  · exact (keepsInv_interruptEntry hhook).finish hiter
  · rw [hu] at hfetch
    have hloaded : Inv (loadInstruction u) := inv_congr hfetch rfl fun _ => rfl
    exact exec_keeps_inv _ hloaded hiter
  · exact hfetch.finish hiter

theorem iteration_sameConfig {s t : State} (hiter : iteration s = .next t) : SameConfig s t := by
  have hhook := sameConfig_runHook s
  have hfetch : (fetchRead (runHook s)).Leaves (SameConfig s) :=
    (readWord_leaves _).mono fun u hu => by rw [hu]; exact hhook
  rcases iteration_cases s with ⟨k, heq⟩ | heq | ⟨u, hu, heq⟩ | heq <;> rw [heq] at hiter
  · cases hiter
    exact hhook
  · exact sameConfig_finish ((leaves_config_interruptEntry _).mono fun _ => hhook.trans) hiter
  · rw [hu] at hfetch
    exact SameConfig.trans (t := loadInstruction u) hfetch (exec_sameConfig _ hiter)
  · exact sameConfig_finish hfetch hiter

/-- Settles O12: the hook, the entry of a break, the fetch and every instruction leave the configuration. -/
theorem runningStepKeepsStraps : Obligations.RunningStepKeepsStraps := by
  intro s t hrun hstep
  have hiter : iteration s = .next t := by rwa [step, hrun] at hstep
  exact iteration_sameConfig hiter

/-! ### The console -/

/-- Settles O10. -/
theorem invariantAtReset : Obligations.InvariantAtReset where
  strapsWf := by decide
  memCanonical := reset_mem_wf
  memInside _ h := nomatch h
  latch := by decide
  restrict h := nomatch h
  noLinkRing _ := rfl
  noLevels _ := ⟨rfl, rfl, rfl⟩
  rename := rfl
  cplsNodup := .nil

/-- The console's reset keeps memory and gives the rest of what the invariant speaks of its reset value (R210). -/
theorem inv_consoleReset {s : State} (h : Inv s) : Inv (consoleReset s) where
  strapsWf := h.strapsWf
  memCanonical := h.memCanonical
  memInside := h.memInside
  latch := invariantAtReset.latch
  restrict hrm := nomatch hrm
  noLinkRing _ := BitVec.zero_and
  noLevels _ := ⟨rfl, rfl, rfl⟩
  rename := rfl
  cplsNodup := .nil

theorem wf_withLimits {c : Straps} (h : c.wf = true) (indMax xctMax : Nat) : (withLimits c indMax xctMax).wf = true := by
  unfold Straps.wf at h ⊢
  rw [Bool.and_eq_true] at h ⊢
  obtain ⟨hind, hcodes⟩ := h
  refine ⟨?_, hcodes⟩
  rw [decide_eq_true_eq] at hind ⊢
  show 1 ≤ if 1 ≤ indMax then indMax else c.indMax
  split <;> assumption

theorem consoleCommand_keeps_inv {s : State} (h : Inv s) (c : ConsoleCmd) : Inv (consoleCommand c s) := by
  cases c with
  | reset => exact inv_consoleReset h
  | deposit a v => exact inv_store h a v
  | limits indMax xctMax => exact { h with strapsWf := wf_withLimits h.strapsWf indMax xctMax }
  | _ => exact inv_congr h rfl fun _ => rfl

theorem consoleStep_keeps_inv {s : State} (h : Inv s) : Inv (consoleStep s) := by
  unfold consoleStep
  split
  next => exact h
  next c cs _ =>
    have htaken : Inv { s with console := cs } := inv_congr h rfl fun _ => rfl
    exact consoleCommand_keeps_inv htaken c

/-- Settles O11: an iteration keeps the invariant by the rules for its parts, a console command by its own. -/
theorem stepKeepsInvariant : Obligations.StepKeepsInvariant := by
  intro s t h hstep
  unfold step at hstep
  split at hstep
  next => exact iteration_keeps_inv h hstep
  next =>
    cases hstep
    exact consoleStep_keeps_inv h

end Sys2Proof.InvariantProofs
end

section
/-! A restricted program (`60_exceptions.md` section 7): it stays confined (O14, O15), it learns nothing of the denied banks
(O16), and its I/O transfers trap (O55). -/

namespace Sys2Proof.RestrictProofs
open Sys2Proof.Machine

/-! ### Confined states -/

/-- The words of two states with one memory and one set of straps are the same. -/
theorem word_congr {s t : State} (hstraps : t.straps = s.straps) (hmem : t.mem = s.mem) (a : Addr) :
    t.word a = s.word a := by
  simp only [State.word, hstraps, hmem]

/-- What a restricted program may leave: nothing changed but the program's own registers, a request on level 14 and
words of banks that are not denied. -/
structure Confined (s t : State) : Prop where
  frame : t = { s with
    ac := t.ac, io := t.io, pc := t.pc, ma := t.ma, mb := t.mb, ir := t.ir, ov := t.ov, pf := t.pf, extm := t.extm
    sbs := { s.sbs with ip := t.sbs.ip }, sbsReq := t.sbsReq, sbsLvl := t.sbsLvl, rtb := t.rtb
    xctCount := t.xctCount, mem := t.mem }
  words : ∀ a, denied s a = true → t.word a = s.word a

theorem Confined.refl (s : State) : Confined s s := ⟨rfl, fun _ _ => rfl⟩

theorem Confined.straps_eq {s t : State} (h : Confined s t) : t.straps = s.straps := (congrArg State.straps h.frame :)

theorem Confined.denied_eq {s t : State} (h : Confined s t) (a : Addr) : denied t a = denied s a := by
  have hmask : t.rmask = s.rmask := (congrArg State.rmask h.frame :)
  rw [denied, denied, hmask, h.straps_eq]

theorem Confined.restricted_eq {s t : State} (h : Confined s t) : restricted t = restricted s := by
  have hrm : t.rm = s.rm := (congrArg State.rm h.frame :)
  have hact : t.sbsAct = s.sbsAct := (congrArg State.sbsAct h.frame :)
  rw [restricted, restricted, hrm, hact]

theorem Confined.trans {s t u : State} (h : Confined s t) (h' : Confined t u) : Confined s u where
  frame := by
    have hu := h'.frame
    rw [h.frame] at hu
    exact hu
  words a ha := (h'.words a (by rw [h.denied_eq, ha])).trans (h.words a ha)

/-- A change of the program's own registers and of the trap's. -/
theorem confined_of_frame {s t : State} (hframe : t = { s with
    ac := t.ac, io := t.io, pc := t.pc, ma := t.ma, mb := t.mb, ir := t.ir, ov := t.ov, pf := t.pf, extm := t.extm
    sbs := { s.sbs with ip := t.sbs.ip }, sbsReq := t.sbsReq, sbsLvl := t.sbsLvl, rtb := t.rtb
    xctCount := t.xctCount }) : Confined s t where
  frame := by rw [hframe]
  words a _ := word_congr (congrArg State.straps hframe :) (congrArg State.mem hframe :) a

theorem confined_registerUpdate {g : State → State} (hg : RegisterUpdate g) (s : State) : Confined s (g s) :=
  confined_of_frame (by rw [hg.frame s])

/-- A store at an allowed address. -/
theorem confined_store {s : State} {a : Addr} (v : Word) (ha : denied s a = false) : Confined s (s.store a v) where
  frame := rfl
  words b hb := State.word_store_other s v fun heq => by rw [heq, ha] at hb; exact Bool.false_ne_true hb

theorem act_of_restricted {s : State} (h : restricted s = true) : s.sbsAct = 0#16 := by
  rw [restricted, Bool.and_eq_true, beq_iff_eq] at h
  exact h.2

/-- A restricted program has no level to leave (R187). -/
theorem confined_leaveLevel {s : State} (h : restricted s = true) (l : BitVec 4) : Confined s (leaveLevel l s) := by
  have hact : clearLevel s.sbsAct l = s.sbsAct := by rw [act_of_restricted h, clearLevel, BitVec.zero_and]
  unfold leaveLevel
  split
  · rw [hact]
    exact confined_of_frame rfl
  · exact confined_of_frame rfl

/-! ### Programs keep confined -/

/-- A restricted operation ends in a confined state, and stops for an endless chain only. -/
def EndsConfined (s : State) : Res → Prop
  | .ok t => Confined s t
  | .trap t => Confined s t
  | .stop k t => k = .ind ∧ Confined s t
  | .refused _ => False

theorem EndsConfined.of_confined {s t : State} (h : Confined s t) {r : Res} (hr : EndsConfined t r) :
    EndsConfined s r := by
  cases r with
  | ok u => exact h.trans hr
  | trap u => exact h.trans hr
  | stop k u => exact ⟨hr.1, h.trans hr.2⟩
  | refused k => exact hr

theorem EndsConfined.andThen {s : State} {r : Res} {f : State → Res} (hr : EndsConfined s r)
    (hf : ∀ t, Confined s t → EndsConfined t (f t)) : EndsConfined s (r.andThen f) := by
  cases r with
  | ok t => exact (hf t hr).of_confined hr
  | trap t => exact hr
  | stop k t => exact hr
  | refused k => exact hr

theorem endsConfined_violate (c : Cause) (s : State) : EndsConfined s (violate c s) :=
  confined_of_frame (t := s.recordTrap c) rfl

theorem denied_of_not_violation {s : State} {a : Addr} (hr : restricted s = true) (hv : ¬violation s a = true) :
    denied s a = false := by
  rw [violation, hr, Bool.true_and] at hv
  exact eq_false_of_ne_true hv

theorem endsConfined_program {w : Bool} {f : State → Res} (hf : Program w f) {s : State} (hr : restricted s = true) :
    EndsConfined s (f s) := by
  induction hf generalizing s with
  | update hg => exact confined_registerUpdate hg s
  | leave l => exact confined_leaveLevel hr l
  | read =>
    unfold readWord
    split
    · exact endsConfined_violate _ s
    · exact confined_of_frame (t := s.withMb (s.word s.ma)) rfl
  | write =>
    unfold writeWord
    split
    · exact endsConfined_violate _ s
    next hv => exact confined_store s.mb (denied_of_not_violation hr hv)
  | seq _ _ ihf ihg => exact (ihf hr).andThen fun t ht => ihg (ht.restricted_eq.trans hr)
  | depend _ _ ih => exact ih _ hr
  | tooLong => exact ⟨rfl, Confined.refl s⟩
  | undefined =>
    rw [undefinedInstruction, if_pos hr]
    exact endsConfined_violate _ s
  | halt =>
    rw [haltOp, if_pos hr]
    exact endsConfined_violate _ s
  | pageCross =>
    dsimp only
    rw [if_pos hr]
    exact endsConfined_violate _ s

/-! ### Instructions keep confined -/

/-- Settles O55: the trap comes before the wait and before the answer. -/
theorem restrictedIotTraps : Obligations.RestrictedIotTraps := by
  intro i s hio hr
  obtain ⟨w, hw⟩ := Option.isSome_iff_exists.mp hio
  obtain ⟨answer, -, heq⟩ := InvariantProofs.transfer_isAnswer hw
  rw [heq, iotIssue_restricted w answer hr]
  rfl

/-- The two ways a restricted program may stop the machine. -/
def StopsAtMostByChain (u t : State) : Prop := t = u ∨ t = u.stopWith .ind ∨ t = u.stopWith .xct

theorem EndsConfined.finish {s t : State} {r : Res} (hr : EndsConfined s r) (h : r.finish = .next t) :
    ∃ u, Confined s u ∧ StopsAtMostByChain u t := by
  rcases Res.finish_eq_next h with rfl | ⟨u, rfl, rfl⟩ | ⟨k, u, rfl, rfl⟩
  · exact ⟨t, hr, .inl rfl⟩
  · exact ⟨trapRedirect u, Confined.trans hr (confined_of_frame rfl), .inl rfl⟩
  · obtain ⟨rfl, hu⟩ := hr
    exact ⟨u, hu, .inr (.inl rfl)⟩

/-- Whatever a restricted program executes, chains of XCT included, it stays confined. -/
theorem exec_confined (i : Instr) {s t : State} (hr : restricted s = true) (hexec : exec i s = .next t) :
    ∃ u, Confined s u ∧ StopsAtMostByChain u t := by
  refine exec_outcome_induction
    (P := fun s o => restricted s = true → ∀ t, o = .next t → ∃ u, Confined s u ∧ StopsAtMostByChain u t)
    ?program ?transfer ?exhausted ?reenter i s hr t hexec
  case program => exact fun w f s hf hr t ht => (endsConfined_program hf hr).finish ht
  case transfer =>
    intro i s hio hr t ht
    rw [restrictedIotTraps i s hio hr] at ht
    cases ht
    exact ⟨_, confined_of_frame rfl, .inl rfl⟩
  case exhausted =>
    rintro s - _ ⟨⟩
    exact ⟨s, Confined.refl s, .inr (.inr rfl)⟩
  case reenter =>
    intro ind y s t o hop ih hr u hu
    have hoperand := endsConfined_program (w := true) (.operand ind y) hr
    rw [hop] at hoperand
    have henter : Confined s (enterXct t) := Confined.trans hoperand (confined_of_frame rfl)
    obtain ⟨v, hv, hstop⟩ := ih (henter.restricted_eq.trans hr) u hu
    exact ⟨v, henter.trans hv, hstop⟩

/-- Settles O14. -/
theorem restrictedWritesNoDeniedWord : Obligations.RestrictedWritesNoDeniedWord := by
  intro i s t a hr hexec ha
  obtain ⟨u, hu, hstop⟩ := exec_confined i hr hexec
  rcases hstop with rfl | rfl | rfl <;> exact hu.words a ha

/-- Settles O15: all that governs restrict mode is outside the frame of a confined state. -/
theorem restrictedKeepsControl : Obligations.RestrictedKeepsControl := by
  intro i s t hr hexec
  obtain ⟨u, hu, hstop⟩ := exec_confined i hr hexec
  have hrm : u.rm = true := (congrArg State.rm hu.frame).trans (InvariantProofs.rm_of_restricted hr)
  have hact : u.sbsAct = 0#16 := (congrArg State.sbsAct hu.frame).trans (act_of_restricted hr)
  have hrun : u.run = s.run := (congrArg State.run hu.frame :)
  have hgoverned : u.rmask = s.rmask ∧ u.sbsEnb = s.sbsEnb ∧ u.sbs.on = s.sbs.on ∧ u.rname = s.rname ∧ u.ioh = s.ioh ∧
      u.ios = s.ios ∧ u.cpls = s.cpls ∧ u.answers = s.answers ∧ u.draws = s.draws ∧ u.lastCall = s.lastCall := by
    rw [hu.frame]
    exact ⟨rfl, rfl, rfl, rfl, rfl, rfl, rfl, rfl, rfl, rfl⟩
  obtain ⟨hmask, henb, hon, hname, hioh, hios, hcpls, hanswers, hdraws, hcall⟩ := hgoverned
  rcases hstop with rfl | rfl | rfl
  · exact ⟨hrm, hmask, hact, henb, hon, hname, hioh, hios, hcpls, hanswers, hdraws, hcall, .inl hrun⟩
  · exact ⟨hrm, hmask, hact, henb, hon, hname, hioh, hios, hcpls, hanswers, hdraws, hcall, .inr (.inl rfl)⟩
  · exact ⟨hrm, hmask, hact, henb, hon, hname, hioh, hios, hcpls, hanswers, hdraws, hcall, .inr (.inr rfl)⟩

/-! ### Twin states -/

/-- `m` is another memory for the restricted state `s`, the same in all banks that are not denied. -/
structure Twin (s : State) (m : Memory) : Prop where
  restricted : restricted s = true
  wf : s.mem.wf = true
  wf' : m.wf = true
  allowed : ∀ a, denied s a = false → ({ s with mem := m } : State).word a = s.word a

theorem Twin.restricted' {s : State} {m : Memory} (h : Twin s m) : Machine.restricted { s with mem := m } = true :=
  h.restricted

theorem Twin.congr {s t : State} {m : Memory} (h : Twin s m) (hr : Machine.restricted t = true) (hmask : t.rmask = s.rmask)
    (hstraps : t.straps = s.straps) (hmem : t.mem = s.mem) : Twin t m where
  restricted := hr
  wf := by rw [hmem]; exact h.wf
  wf' := h.wf'
  allowed a ha := by
    have hdenied : denied s a = false := by rwa [denied, hmask, hstraps] at ha
    calc ({ t with mem := m } : State).word a
        = ({ s with mem := m } : State).word a :=
          word_congr (t := { t with mem := m }) (s := { s with mem := m }) hstraps rfl a
      _ = s.word a := h.allowed a hdenied
      _ = t.word a := (word_congr hstraps hmem a).symm

/-- The same store at an allowed address. -/
theorem Twin.store {s : State} {m : Memory} (h : Twin s m) {a : Addr} (v : Word) :
    Twin (s.store a v) (({ s with mem := m } : State).stored a v) where
  restricted := h.restricted
  wf := State.stored_wf a v h.wf
  wf' := State.stored_wf (s := { s with mem := m }) a v h.wf'
  allowed b hb := by
    show (({ s with mem := m } : State).store a v).word b = _
    by_cases hba : b = a
    · subst hba
      by_cases hlt : b.toNat < s.straps.memsize
      · rw [State.word_store_same v h.wf hlt]
        exact State.word_store_same (s := { s with mem := m }) v h.wf' hlt
      · have habsent (t : State) (ht : t.straps = s.straps) : t.word b = 0#18 :=
          MemoryProofs.word_of_memsize_le (by rw [ht]; exact Nat.not_lt.mp hlt)
        exact (habsent (({ s with mem := m } : State).store b v) rfl).trans (habsent (s.store b v) rfl).symm
    · rw [State.word_store_other _ v hba, State.word_store_other _ v hba]
      exact h.allowed b hb

/-- Two operations end the same way, in twin states. -/
def TwinEnds : Res → Res → Prop
  | .ok t, .ok t' => ∃ m, t' = { t with mem := m } ∧ Twin t m
  | .trap t, .trap t' => ∃ m, t' = { t with mem := m } ∧ Twin t m
  | .stop k t, .stop k' t' => k' = k ∧ ∃ m, t' = { t with mem := m } ∧ Twin t m
  | .refused k, .refused k' => k' = k
  | _, _ => False

theorem TwinEnds.andThen {r r' : Res} {f : State → Res} (h : TwinEnds r r')
    (hf : ∀ (t : State) (m : Memory), Twin t m → TwinEnds (f t) (f { t with mem := m })) :
    TwinEnds (r.andThen f) (r'.andThen f) := by
  cases r <;> cases r' <;> try exact h.elim
  case ok.ok =>
    obtain ⟨m, rfl, hm⟩ := h
    exact hf _ m hm
  all_goals exact h

theorem TwinEnds.finish {r r' : Res} {t : State} (h : TwinEnds r r') (ht : r.finish = .next t) :
    ∃ m, r'.finish = .next { t with mem := m } ∧ Twin t m := by
  cases r <;> cases r' <;> try exact h.elim
  case ok.ok =>
    obtain ⟨m, rfl, hm⟩ := h
    cases ht
    exact ⟨m, rfl, hm⟩
  case trap.trap =>
    obtain ⟨m, rfl, hm⟩ := h
    cases ht
    exact ⟨m, rfl, hm.congr hm.restricted rfl rfl rfl⟩
  case stop.stop =>
    obtain ⟨rfl, m, rfl, hm⟩ := h
    cases ht
    exact ⟨m, rfl, hm.congr hm.restricted rfl rfl rfl⟩
  case refused.refused => cases ht

theorem twinEnds_violate {s : State} {m : Memory} (h : Twin s m) (c : Cause) :
    TwinEnds (violate c s) (violate c { s with mem := m }) :=
  ⟨m, rfl, h.congr h.restricted rfl rfl rfl⟩

/-- A program of a restricted machine runs the same in twin states. -/
theorem twinEnds_program {w : Bool} {f : State → Res} (hf : Program w f) {s : State} {m : Memory} (h : Twin s m) :
    TwinEnds (f s) (f { s with mem := m }) := by
  induction hf generalizing s m with
  | update hg =>
    have hconfined := confined_registerUpdate hg s
    exact ⟨m, hg.blind s m, h.congr (hconfined.restricted_eq.trans h.restricted)
      (congrArg State.rmask hconfined.frame :) hconfined.straps_eq (hg.mem_eq s)⟩
  | leave l =>
    have hconfined := confined_leaveLevel h.restricted l
    refine ⟨m, ?_, h.congr (hconfined.restricted_eq.trans h.restricted)
      (congrArg State.rmask hconfined.frame :) hconfined.straps_eq ?_⟩
    · unfold leaveLevel
      dsimp only
      split <;> rfl
    · unfold leaveLevel
      split <;> rfl
  | read =>
    by_cases hv : violation s s.ma = true
    · rw [readWord_violation hv, readWord_violation (s := { s with mem := m }) hv]
      exact twinEnds_violate h _
    · have hok := eq_false_of_ne_true hv
      have hword := h.allowed s.ma (denied_of_not_violation h.restricted hv)
      rw [readWord_of hok, readWord_of (s := { s with mem := m }) hok]
      exact ⟨m, congrArg (fun v => { s with mem := m, mb := v }) hword, h.congr h.restricted rfl rfl rfl⟩
  | write =>
    by_cases hv : violation s s.ma = true
    · rw [writeWord_violation hv, writeWord_violation (s := { s with mem := m }) hv]
      exact twinEnds_violate h _
    · have hok := eq_false_of_ne_true hv
      rw [writeWord_of hok, writeWord_of (s := { s with mem := m }) hok]
      exact ⟨_, rfl, h.store s.mb⟩
  | seq _ _ ihf ihg => exact (ihf h).andThen fun t m' h' => ihg h'
  | depend hk _ ih =>
    dsimp only
    rw [hk s m]
    exact ih _ h
  | tooLong => exact ⟨rfl, m, rfl, h⟩
  | undefined =>
    rw [undefinedInstruction, undefinedInstruction, if_pos h.restricted, if_pos h.restricted']
    exact twinEnds_violate h _
  | halt =>
    rw [haltOp, haltOp, if_pos h.restricted, if_pos h.restricted']
    exact twinEnds_violate h _
  | pageCross =>
    dsimp only
    rw [if_pos h.restricted, if_pos h.restricted']
    exact twinEnds_violate h _

/-- The same of every instruction, chains of XCT included. -/
theorem exec_twin (i : Instr) (s : State) : ∀ (m : Memory) (t : State), Twin s m → exec i s = .next t →
    ∃ m', exec i { s with mem := m } = .next { t with mem := m' } ∧ Twin t m' := by
  refine exec_induction (P := fun i s => ∀ (m : Memory) (t : State), Twin s m → exec i s = .next t →
    ∃ m', exec i { s with mem := m } = .next { t with mem := m' } ∧ Twin t m') ?program ?transfer ?xct i s
  case program =>
    rintro i s ⟨f, hf, heq⟩ m t h ht
    rw [heq] at ht ⊢
    exact (twinEnds_program hf h).finish ht
  case transfer =>
    intro i s hio m t h ht
    rw [restrictedIotTraps i s hio h.restricted] at ht
    cases ht
    exact ⟨m, restrictedIotTraps i { s with mem := m } hio h.restricted, h.congr h.restricted rfl rfl rfl⟩
  case xct =>
    intro ind y s ih m t h ht
    have htwin := twinEnds_program (w := true) (.operand ind y) h
    rcases exec_xct_cases ind y s with ⟨hge, heq⟩ | ⟨hlt, hno, heq⟩ | ⟨u, hlt, hop, heq⟩ <;> rw [heq] at ht
    · cases ht
      exact ⟨m, exec_xct_exhausted (s := { s with mem := m }) hge ind y, h.congr h.restricted rfl rfl rfl⟩
    · have hno' : ∀ v, operand ind y { s with mem := m } ≠ .ok v := by
        intro v hv
        rw [hv] at htwin
        cases hr : operand ind y s with
        | ok u => exact hno u hr
        | _ => rw [hr] at htwin; exact htwin
      rw [exec_xct_noOperand (s := { s with mem := m }) hlt hno']
      exact htwin.finish ht
    · rw [hop] at htwin
      cases hr : operand ind y { s with mem := m } with
      | ok v =>
        rw [hr] at htwin
        obtain ⟨m', rfl, hm'⟩ := htwin
        rw [exec_xct_reenters (s := { s with mem := m }) hlt hr]
        exact ih u hlt hop m' t (hm'.congr hm'.restricted rfl rfl rfl) ht
      | _ => rw [hr] at htwin; exact htwin.elim

/-- Settles O16. -/
theorem restrictedReadsNoDeniedWord : Obligations.RestrictedReadsNoDeniedWord := by
  intro i s t m hr hwf hwf' hallowed hexec
  obtain ⟨m', hexec', htwin⟩ := exec_twin i s m t ⟨hr, hwf, hwf', hallowed⟩ hexec
  refine ⟨m', hexec', fun a ha => htwin.allowed a ?_⟩
  obtain ⟨u, hu, hstop⟩ := exec_confined i hr hexec
  have hdenied : denied t a = denied u a := by rcases hstop with rfl | rfl | rfl <;> rfl
  rw [hdenied, hu.denied_eq, ha]

end Sys2Proof.RestrictProofs
end

section
/-! What is refused (O13), XCT as the instruction that it reads (O25), and what a store leaves alone (O17). -/

namespace Sys2Proof.InstructionProofs
open Sys2Proof.Machine

/-! ### Sequencing -/

theorem andThen_assoc (r : Res) (f g : State → Res) : (r.andThen f).andThen g = r.andThen fun s => (f s).andThen g := by
  cases r <;> rfl

theorem finish_eq_refused {r : Res} {k : Refusal} (h : r.finish = .refused k) : r = .refused k := by
  cases r <;> simp_all [Res.finish]

/-! ### The operand of an instruction -/

theorem operand_of {ind : Bool} {y : BitVec 12} {s t : State} (hea : ea ind y s = .ok t)
    (hv : violation t t.ma = false) : operand ind y s = .ok (t.withMb (t.word t.ma)) :=
  operand_eq_ok.mpr ⟨t, hea, hv, rfl⟩

theorem finish_operand {ind : Bool} {y : BitVec 12} {s t : State} (hea : ea ind y s = .ok t)
    (hv : violation t t.ma = false) (f : State → Res) :
    ((operand ind y s).andThen f).finish = (f (t.withMb (t.word t.ma))).finish := by
  rw [operand_of hea hv, Res.andThen_ok]

theorem finish_ea {ind : Bool} {y : BitVec 12} {s t : State} (hea : ea ind y s = .ok t) (f : State → Res) :
    ((ea ind y s).andThen f).finish = (f t).finish := by
  rw [hea, Res.andThen_ok]

theorem forwards_andThen (r : Res) (f : State → Res) : Forwards r (r.andThen f).finish := by
  constructor
  · rintro t rfl
    rfl
  · rintro k t rfl
    rfl

/-- An instruction that begins with its operand ends early where it gets none. -/
theorem endsWithoutOperand (ind : Bool) (y : BitVec 12) (s : State) (f : State → Res) :
    EndsWithoutOperand ind y s ((operand ind y s).andThen f).finish := by
  rw [operand, andThen_assoc]
  refine ⟨forwards_andThen _ _, fun t hea hv => ?_⟩
  rw [hea, Res.andThen_ok, readWord_violation hv, Res.andThen_trap, Res.finish_trap]

theorem straps_of_ea {ind : Bool} {y : BitVec 12} {s t : State} (hea : ea ind y s = .ok t) : SameButLatches s t := by
  have hleaves := ea_leaves ind y s
  rwa [hea] at hleaves

/-! ### XCT -/

/-- The dispatch of the word at the effective address, as one update of the state that the resolution leaves. -/
theorem exec_xct_of_ea {ind : Bool} {y : BitVec 12} {s t : State} (hlt : s.xctCount < s.straps.xctMax)
    (hea : ea ind y s = .ok t) (hv : violation t t.ma = false) :
    exec (.xct ind y) s = exec (decode s.straps.mdv (t.word t.ma))
      { t with mb := t.word t.ma, ir := t.word t.ma, xctCount := s.xctCount + 1 } := by
  have hframe := straps_of_ea hea
  have hstraps : t.straps = s.straps := (congrArg State.straps hframe :)
  have hcount : t.xctCount = s.xctCount := (congrArg State.xctCount hframe :)
  rw [exec_xct_reenters hlt (operand_of hea hv), enterXct, State.withMb_straps, hstraps, State.withMb_xctCount, hcount]
  rfl

/-- Settles O25. -/
theorem xctRunsTheWordItReads : Obligations.XctRunsTheWordItReads := by
  intro ind y s
  refine ⟨fun hge => exec_xct_exhausted hge ind y, fun hlt => ⟨?early, fun t hea hv => ⟨exec_xct_of_ea hlt hea hv, ?law⟩⟩⟩
  case early =>
    have hfinish (hno : ∀ t, operand ind y s ≠ .ok t) : exec (.xct ind y) s = ((operand ind y s).andThen .ok).finish := by
      rw [exec_xct_noOperand hlt hno]
      cases operand ind y s <;> rfl
    have hends := endsWithoutOperand ind y s .ok
    refine ⟨⟨fun t hea => ?_, fun k t hea => ?_⟩, fun t hea hv => ?_⟩
    · rw [hfinish fun u hu => by simp [operand, hea] at hu]
      exact hends.1.1 t hea
    · rw [hfinish fun u hu => by simp [operand, hea] at hu]
      exact hends.1.2 k t hea
    · rw [hfinish fun u hu => by simp [operand, hea, readWord_violation hv] at hu]
      exact hends.2 t hea hv
  case law =>
    intro n hdecode
    rw [exec_xct_of_ea hlt hea hv, hdecode]
    rfl

/-! ### What is refused -/

theorem corePulse_ne_refused (w : Bool) (u : State → State) (s : State) (k : Refusal) : corePulse w u s ≠ .refused k :=
  Res.noConfusion

theorem undefinedInstruction_ne_refused (s : State) (k : Refusal) : undefinedInstruction s ≠ .refused k :=
  Program.ne_refused (w := false) .undefined s k

theorem deviceCall_ne_refused (w c : Bool) (dev : BitVec 6) (s : State) (k : Refusal) :
    deviceCall w c dev s ≠ .refused k := by
  unfold deviceCall
  dsimp only
  split
  · exact undefinedInstruction_ne_refused _ k
  · unfold forcedStop
    split <;> exact Res.noConfusion

/-- Only the answer of a first issue by an unrestricted program can be refused. -/
theorem iotIssue_eq_refused {w : Bool} {answer : State → Res} {s : State} {k : Refusal}
    (h : (iotIssue w answer s).finish = .refused k) :
    restricted s = false ∧ FirstIssue w s ∧ answer s = .refused k := by
  have h := finish_eq_refused h
  unfold iotIssue at h
  split at h
  next => exact absurd h Res.noConfusion
  next hr =>
    split at h
    next =>
      rcases waitOn_cases s with ⟨-, heq⟩ | ⟨-, -, heq⟩ | ⟨-, -, heq⟩ <;> exact absurd (heq ▸ h) Res.noConfusion
    next hwait =>
      rw [Bool.and_eq_true, not_and_or] at hwait
      exact ⟨eq_false_of_ne_true hr, hwait.imp eq_false_of_ne_true eq_false_of_ne_true, h⟩

/-- The refused I/O transfers (D10, D20). -/
theorem transfer_refused {i : Instr} {s : State} {k : Refusal} (hio : (waitBit i).isSome = true)
    (h : exec i s = .refused k) :
    s.straps.opt1d = true ∧ restricted s = false ∧
      ((∃ w c sub, i = .rnm w c sub ∧ FirstIssue w s ∧ k = .renameTable) ∨
       (∃ w c sub, i = .erm w c sub ∧ FirstIssue w s ∧ s.straps.sbs16 = false ∧ k = .restrictModeWithoutSbs16)) := by
  cases i <;> try exact absurd hio Bool.false_ne_true
  case rnm w c sub =>
    obtain ⟨hr, hfirst, ha⟩ := iotIssue_eq_refused h
    split at ha
    next h1d =>
      cases ha
      exact ⟨h1d, hr, .inl ⟨w, c, sub, rfl, hfirst, rfl⟩⟩
    next => exact absurd ha (deviceCall_ne_refused w c _ s k)
  case erm w c sub =>
    obtain ⟨hr, hfirst, ha⟩ := iotIssue_eq_refused h
    split at ha
    next h1d =>
      unfold enterRestrictPulse at ha
      split at ha
      next => exact absurd ha (corePulse_ne_refused w _ s k)
      next hsbs =>
        cases ha
        exact ⟨h1d, hr, .inr ⟨w, c, sub, rfl, hfirst, eq_false_of_ne_true hsbs, rfl⟩⟩
    next => exact absurd ha (deviceCall_ne_refused w c _ s k)
  case iot w c sub dev => exact absurd (iotIssue_eq_refused h).2.2 (deviceCall_ne_refused w c dev s k)
  case lsm | esm | cbs | lem | eem => exact absurd (iotIssue_eq_refused h).2.2 (corePulse_ne_refused _ _ s k)
  case rtb | dsc | asc | isb | cac =>
    obtain ⟨-, -, ha⟩ := iotIssue_eq_refused h
    split at ha
    · exact absurd ha (corePulse_ne_refused _ _ s k)
    · exact absurd ha (undefinedInstruction_ne_refused s k)
  case rngClr | rngSet | lrm | rsm =>
    obtain ⟨-, -, ha⟩ := iotIssue_eq_refused h
    split at ha
    · exact absurd ha (corePulse_ne_refused _ _ s k)
    · exact absurd ha (deviceCall_ne_refused _ _ _ s k)

/-- Settles O13: an I/O transfer by its answer, an XCT by the word it reads, and no program at all. -/
theorem onlyTwoPulsesAreRefused : Obligations.OnlyTwoPulsesAreRefused := by
  refine ⟨?only, fun w c sub s h1d hr hfirst => ⟨?rnm, fun hsbs => ?erm⟩⟩
  case only =>
    intro i s
    refine exec_induction (P := fun i s => ∀ r, exec i s = .refused r →
      s.straps.opt1d = true ∧ restricted s = false ∧
        ((∃ w c sub, i = .rnm w c sub ∧ FirstIssue w s ∧ r = .renameTable) ∨
         (∃ w c sub, i = .erm w c sub ∧ FirstIssue w s ∧ s.straps.sbs16 = false ∧ r = .restrictModeWithoutSbs16) ∨
         (∃ ind y t, i = .xct ind y ∧ s.xctCount < s.straps.xctMax ∧ ea ind y s = .ok t ∧ violation t t.ma = false ∧
           exec (decode s.straps.mdv (t.word t.ma))
             { t with mb := t.word t.ma, ir := t.word t.ma, xctCount := s.xctCount + 1 } = .refused r)))
      ?program ?transfer ?xct i s
    case program =>
      rintro i s ⟨f, hf, heq⟩ r h
      rw [heq] at h
      exact absurd (finish_eq_refused h) (hf.ne_refused s r)
    case transfer =>
      intro i s hio r h
      obtain ⟨h1d, hr, hcase⟩ := transfer_refused hio h
      exact ⟨h1d, hr, hcase.imp id .inl⟩
    case xct =>
      intro ind y s ih r h
      rcases exec_xct_cases ind y s with ⟨-, heq⟩ | ⟨-, -, heq⟩ | ⟨u, hlt, hop, heq⟩
      · rw [heq] at h
        cases h
      · exact absurd (finish_eq_refused (heq ▸ h)) (Program.ne_refused (w := false) (.operand ind y) s r)
      · obtain ⟨h1d, hr, -⟩ := ih u hlt hop r (heq ▸ h)
        have hframe : SameButLatches s u := by
          have hleaves := operand_leaves ind y s
          rwa [hop] at hleaves
        obtain ⟨t, hea, hv, -⟩ := operand_eq_ok.mp hop
        have hstraps : u.straps = s.straps := (congrArg State.straps hframe :)
        have hrestricted : restricted u = restricted s := by rw [hframe]; rfl
        refine ⟨by rw [← hstraps]; exact h1d, by rw [← hrestricted]; exact hr,
          .inr (.inr ⟨ind, y, t, rfl, hlt, hea, hv, ?_⟩)⟩
        rw [← exec_xct_of_ea hlt hea hv, h]
  case rnm =>
    show (iotIssue w _ s).finish = _
    rw [iotIssue_first _ hr hfirst, if_pos h1d]
    rfl
  case erm =>
    show (iotIssue w _ s).finish = _
    rw [iotIssue_first _ hr hfirst, if_pos h1d, enterRestrictPulse, if_neg (ne_true_of_eq_false hsbs)]
    rfl

/-! ### What a store leaves alone -/

/-- Every word but the one at the address `a`, if there is one, is as in `s`. -/
def WordsKept (s : State) (a : Option Addr) (t : State) : Prop := ∀ b, a ≠ some b → t.word b = s.word b

theorem wordsKept_finish {s t : State} {a : Option Addr} {r : Res} (hr : r.Leaves (WordsKept s a))
    (h : r.finish = .next t) : WordsKept s a t := by
  rcases Res.finish_eq_next h with rfl | ⟨u, rfl, rfl⟩ | ⟨k, u, rfl, rfl⟩ <;> exact hr

theorem wordsKept_of_same {s t : State} (a : Option Addr) (hstraps : t.straps = s.straps) (hmem : t.mem = s.mem) :
    WordsKept s a t := fun b _ => RestrictProofs.word_congr hstraps hmem b

/-- A store of MB at MA, after changes that memory and the straps survive. -/
theorem writeWord_wordsKept {s t : State} (hstraps : t.straps = s.straps) (hmem : t.mem = s.mem) :
    (writeWord t).Leaves (WordsKept s (some t.ma)) := by
  unfold writeWord
  split
  · exact wordsKept_of_same (t := t.recordTrap .access) _ hstraps hmem
  · intro b hb
    have hne : b ≠ t.ma := fun heq => hb (congrArg some heq.symm)
    rw [State.word_store_other _ _ hne, RestrictProofs.word_congr hstraps hmem]

/-- A store to the effective address, after changes that MA, memory and the straps survive. -/
theorem store_wordsKept (ind : Bool) (y : BitVec 12) (s : State) {f : State → Res}
    (hf : ∀ t, (f t).Leaves (WordsKept t (some t.ma))) :
    ((ea ind y s).andThen f).Leaves (WordsKept s (resolvedAddress (ea ind y s))) := by
  have hleaves := ea_leaves ind y s
  cases hea : ea ind y s with
  | ok t =>
    rw [hea] at hleaves
    have hword (b : Addr) : t.word b = s.word b :=
      RestrictProofs.word_congr (congrArg State.straps hleaves :) (congrArg State.mem hleaves :) b
    exact (hf t).mono fun u hu b hb => (hu b hb).trans (hword b)
  | trap t | stop k t =>
    rw [hea] at hleaves
    exact wordsKept_of_same _ (congrArg State.straps hleaves :) (congrArg State.mem hleaves :)
  | refused k => trivial

/-- The same for a store of a word made from the operand. -/
theorem storeOperand_wordsKept (ind : Bool) (y : BitVec 12) (s : State) {u : State → State}
    (hu : ∀ t, u t = { t with ac := (u t).ac, mb := (u t).mb }) :
    ((operand ind y s).andThen fun t => writeWord (u t)).Leaves (WordsKept s (resolvedAddress (ea ind y s))) := by
  rw [operand, andThen_assoc]
  refine store_wordsKept ind y s fun t => ?_
  have hmade (v : Word) : (writeWord (u (t.withMb v))).Leaves (WordsKept t (some t.ma)) := by
    have hframe := hu (t.withMb v)
    have hma : (u (t.withMb v)).ma = t.ma := (congrArg State.ma hframe :)
    rw [← hma]
    exact writeWord_wordsKept (congrArg State.straps hframe :) (congrArg State.mem hframe :)
  unfold readWord
  split
  · exact wordsKept_of_same (t := t.recordTrap .access) _ rfl rfl
  · exact hmade _

theorem storeValue_wordsKept (v : State → Word) (ind : Bool) (y : BitVec 12) (s : State) :
    (storeValue v ind y s).Leaves (WordsKept s (resolvedAddress (ea ind y s))) :=
  store_wordsKept ind y s fun t => writeWord_wordsKept (t := t.withMb (v t)) rfl rfl

theorem storeMerged_wordsKept (f : State → Word) (ind : Bool) (y : BitVec 12) (s : State) :
    (storeMerged f ind y s).Leaves (WordsKept s (resolvedAddress (ea ind y s))) :=
  storeOperand_wordsKept ind y s (u := fun t => t.withMb (f t)) fun _ => rfl

theorem indexMemory_wordsKept (ind : Bool) (y : BitVec 12) (s : State) :
    (indexMemory ind y s).Leaves (WordsKept s (resolvedAddress (ea ind y s))) :=
  storeOperand_wordsKept ind y s (u := fun t => { t with ac := indexResult t.mb, mb := indexResult t.mb }) fun _ => rfl

theorem callAt_wordsKept (a : Addr) (s : State) : (callAt a s).Leaves (WordsKept s (some a)) :=
  writeWord_wordsKept (t := { s with ma := a, mb := s.ac, ac := epcWord s, pc := incrAddr a }) rfl rfl

/-- How each instruction that stores one word leaves the others. -/
theorem storing_wordsKept {i : Instr} (hone : storesAtMostOneWord i = true) (hstores : storesToMemory i = true)
    {s t : State} (hexec : exec i s = .next t) : WordsKept s (storeAddress i s) t := by
  cases i <;> try exact absurd hstores Bool.false_ne_true
  case lch | dch => exact absurd hone Bool.false_ne_true
  case dac ind y | dio ind y | dzm ind y =>
    exact wordsKept_finish (storeValue_wordsKept _ ind y s) hexec
  case dap ind y | dip ind y => exact wordsKept_finish (storeMerged_wordsKept _ ind y s) hexec
  case idx ind y => exact wordsKept_finish (indexMemory_wordsKept ind y s) hexec
  case isp ind y =>
    refine wordsKept_finish ((indexMemory_wordsKept ind y s).andThen fun u _ hu => ?_) hexec
    rw [State.skipIf_eq]
    exact hu
  case cal y | jda y => exact wordsKept_finish (callAt_wordsKept _ s) hexec

theorem storesAtMostOneWord_of_transfer {i : Instr} (h : (waitBit i).isSome = true) : storesAtMostOneWord i = false := by
  unfold storesAtMostOneWord
  split
  next => rfl
  next => rfl
  next => rfl
  next => rw [← Option.not_isSome, h]; rfl

/-- Settles O17: an instruction that does not store is a program without stores. -/
theorem storesTouchOnlyTheirWord : Obligations.StoresTouchOnlyTheirWord := by
  intro i s t a hone hexec ha
  by_cases hstores : storesToMemory i = true
  · exact storing_wordsKept hone hstores hexec a ha
  · rcases instr_cases i with ⟨ind, y, rfl⟩ | hio | ⟨f, hf, heq⟩
    · exact absurd hone Bool.false_ne_true
    · exact absurd hone (ne_true_of_eq_false (storesAtMostOneWord_of_transfer hio))
    · rw [eq_false_of_ne_true hstores] at hf
      have hkept : (f s).Leaves (WordsKept s none) := by
        have hmem := hf.mem_eq s
        have hframe := hf.leaves s
        cases hr : f s with
        | refused k => trivial
        | _ =>
          rw [hr] at hmem hframe
          exact wordsKept_of_same none (congrArg State.straps hframe :) hmem
      rw [heq] at hexec
      exact wordsKept_finish hkept hexec a nofun

end Sys2Proof.InstructionProofs
end

section
/-! Addresses, the indirect walk and the byte pointer (`20_memory.md` section 6, `41_char_pdp1d.md`). -/

namespace Sys2Proof.AddressProofs
open Sys2Proof.Machine
open Sys2Proof.InstructionProofs

/-! ### Addresses inside a field -/

theorem inField_eq_append (a b : Addr) : inField a b = a.extractLsb' 12 4 ++ b.extractLsb' 0 12 := by
  apply BitVec.eq_of_getLsbD_eq
  intro i hi
  simp only [inField, epcmask, BitVec.getLsbD_or, BitVec.getLsbD_and, BitVec.getLsbD_not, BitVec.getLsbD_append,
    BitVec.getLsbD_extractLsb']
  interval_cases i <;> simp

/-- The field comes from the first address, the place in the field from the second. -/
theorem inField_toNat (a b : Addr) : (inField a b).toNat = a.toNat / 4096 * 4096 + b.toNat % 4096 := by
  have hlow : (b.extractLsb' 0 12).toNat < 2 ^ 12 := BitVec.isLt _
  rw [inField_eq_append, BitVec.toNat_append, ← Nat.shiftLeft_add_eq_or_of_lt hlow, Nat.shiftLeft_eq,
    BitVec.extractLsb'_toNat, BitVec.extractLsb'_toNat, Nat.shiftRight_eq_div_pow, Nat.shiftRight_zero]
  have := a.isLt
  omega

theorem inField_and_epcmask (a b : Addr) : inField a b &&& epcmask = a &&& epcmask := by
  apply BitVec.eq_of_getLsbD_eq
  intro i hi
  simp only [inField, epcmask, BitVec.getLsbD_or, BitVec.getLsbD_and, BitVec.getLsbD_not]
  interval_cases i <;> simp

theorem incrAddr_toNat (a : Addr) : (incrAddr a).toNat = a.toNat / 4096 * 4096 + (a.toNat + 1) % 4096 := by
  have := a.isLt
  rw [incrAddr, inField_toNat, BitVec.toNat_add, BitVec.toNat_ofNat]
  omega

theorem decrAddr_toNat (a : Addr) : (decrAddr a).toNat = a.toNat / 4096 * 4096 + (a.toNat + 4095) % 4096 := by
  have := a.isLt
  rw [decrAddr, inField_toNat, BitVec.toNat_sub, BitVec.toNat_ofNat]
  omega

/-- Settles O19: the low 12 bits are counted modulo 4096. -/
theorem incrDecrInsideTheField : Obligations.IncrDecrInsideTheField := by
  intro a
  refine ⟨BitVec.eq_of_toNat_eq ?_, BitVec.eq_of_toNat_eq ?_, inField_and_epcmask a _, inField_and_epcmask a _, ?_, ?_⟩
  · rw [incrAddr_toNat, decrAddr_toNat]
    omega
  · rw [decrAddr_toNat, incrAddr_toNat]
    omega
  · rw [incrAddr_toNat]
    omega
  · rw [decrAddr_toNat]
    omega

/-! ### Banks -/

theorem bankOf_at12 (a : Addr) : bankOf .at12 a = a.toNat / 4096 := by
  rw [bankOf, BitVec.toNat_ushiftRight, Nat.shiftRight_eq_div_pow]

theorem bankOf_at14 (a : Addr) : bankOf .at14 a = a.toNat / 16384 := by
  rw [bankOf, BitVec.toNat_ushiftRight, Nat.shiftRight_eq_div_pow]

theorem bankOf_le (b : BankShift) (a : Addr) : bankOf b a ≤ 15 := by
  have := a.isLt
  cases b
  · rw [bankOf_at12]
    omega
  · rw [bankOf_at14]
    omega

/-- Settles O20. -/
theorem deniedIsAMaskBit : Obligations.DeniedIsAMaskBit := by
  intro s a
  refine ⟨?_, bankOf_at12 a, bankOf_at14 a⟩
  have hbank := bankOf_le s.straps.bankShift a
  rw [denied, BitVec.getLsbD_shiftLeft, decide_eq_true (by decide), decide_eq_false (by omega)]
  rfl

/-- A bank is one field or four, so it depends on the field of an address only (R55). -/
theorem bankOf_inField (b : BankShift) (a c : Addr) : bankOf b (inField a c) = bankOf b a := by
  cases b
  · rw [bankOf_at12, bankOf_at12, inField_toNat]
    omega
  · rw [bankOf_at14, bankOf_at14, inField_toNat]
    omega

theorem violation_inField (s : State) (a c : Addr) : violation s (inField a c) = violation s a := by
  rw [violation, violation, denied, denied, bankOf_inField]

/-! ### The cells of a walk -/

/-- Every cell of a walk from the direct address is in the field of PC. -/
theorem chainCell_inField (s : State) (y : BitVec 12) (k : Nat) :
    ∃ c, chainCell s (directAddr s.pc y) k = inField s.pc c := by
  cases k with
  | zero => exact ⟨_, rfl⟩
  | succ k => exact ⟨_, rfl⟩

theorem violation_chainCell (s : State) (y : BitVec 12) (k : Nat) :
    violation s (chainCell s (directAddr s.pc y) k) = violation s (directAddr s.pc y) := by
  obtain ⟨c, hc⟩ := chainCell_inField s y k
  rw [hc, directAddr, violation_inField, violation_inField]

/-- The state of a walk from the cell `a` when `k` cells have been read. -/
def walkState (s : State) (a : Addr) : Nat → State
  | 0 => s.withMa a
  | k + 1 => { s with mb := s.word (chainCell s a k), ma := chainCell s a (k + 1) }

/-- One read of a walk gives MB the cell. -/
theorem readWord_walkState {s : State} {a : Addr} {k : Nat} (hv : violation s (chainCell s a k) = false) :
    readWord (walkState s a k) = .ok { s with mb := s.word (chainCell s a k), ma := chainCell s a k } := by
  cases k <;> exact readWord_of (s := walkState s a _) hv

/-! ### The walk of the effective address -/

theorem chase_walkState {s : State} {a : Addr} {k : Nat} (hv : violation s (chainCell s a k) = false) (n : Nat) :
    chase (n + 1) (walkState s a k) =
      if hasIndirect (s.word (chainCell s a k)) then chase n (walkState s a (k + 1)) else .ok (walkState s a (k + 1)) := by
  rw [chase, readWord_walkState hv]
  rfl

/-- A walk over `j` cells that all have the indirect flag. -/
theorem chase_walk {s : State} {a : Addr} (hv : ∀ k, violation s (chainCell s a k) = false) (j n : Nat)
    (hind : ∀ k, k < j → hasIndirect (s.word (chainCell s a k)) = true) :
    chase (j + n) (s.withMa a) = chase n (walkState s a j) := by
  induction j generalizing n with
  | zero => rw [Nat.zero_add]; rfl
  | succ j ih =>
    rw [Nat.succ_add_eq_add_succ, ih (n + 1) fun k hk => hind k (hk.trans (Nat.lt_succ_self j)), chase_walkState (hv j),
      if_pos (hind j (Nat.lt_succ_self j))]

theorem ea_indirect {s : State} (h : s.extm = false) (y : BitVec 12) :
    ea true y s = chase s.straps.indMax (s.withMa (directAddr s.pc y)) := by
  simp [ea, h]

theorem ea_extended {s : State} (h : s.extm = true) (y : BitVec 12) :
    ea true y s = (readWord (s.withMa (directAddr s.pc y))).andThen fun t => .ok (t.withMa (t.mb.setWidth 16)) := by
  simp [ea, h]

/-- A denied first indirect word. -/
theorem ea_denied {s : State} {y : BitVec 12} (hv : violation s (directAddr s.pc y) = true)
    (hmax : s.extm = false → 1 ≤ s.straps.indMax) :
    ea true y s = .trap ((s.withMa (directAddr s.pc y)).recordTrap .access) := by
  have hread : readWord (s.withMa (directAddr s.pc y)) = .trap ((s.withMa (directAddr s.pc y)).recordTrap .access) :=
    readWord_violation hv
  cases hextm : s.extm with
  | true => rw [ea_extended hextm, hread, Res.andThen_trap]
  | false =>
    obtain ⟨n, hn⟩ : ∃ n, s.straps.indMax = n + 1 := ⟨_, (Nat.sub_add_cancel (hmax hextm)).symm⟩
    rw [ea_indirect hextm, hn, chase, hread, Res.andThen_trap]

/-- The trap buffer is written by traps only. -/
theorem rtb_of_program {w : Bool} {f : State → Res} (hf : Program w f) {s t : State} (h : f s = .ok t) :
    t.rtb = s.rtb := by
  induction hf generalizing s t with
  | update hg =>
    cases h
    rw [hg.frame s]
  | leave l =>
    cases h
    unfold leaveLevel
    split <;> rfl
  | read =>
    obtain ⟨-, rfl⟩ := readWord_eq_ok.mp h
    rfl
  | write =>
    obtain ⟨-, rfl⟩ := writeWord_eq_ok.mp h
    rfl
  | seq _ _ ihf ihg =>
    obtain ⟨u, hu, ht⟩ := Res.andThen_eq_ok.mp h
    exact (ihg ht).trans (ihf hu)
  | depend _ _ ih => exact ih _ h
  | tooLong => cases h
  | undefined =>
    rcases undefinedInstruction_cases s with ⟨-, heq⟩ | ⟨-, -, heq⟩ | ⟨-, -, heq⟩ <;> rw [heq] at h <;> cases h
    rfl
  | halt =>
    unfold haltOp violate at h
    split at h <;> cases h
  | pageCross _ ih =>
    dsimp only at h
    split at h
    · cases h
    · exact ih h

theorem directAddr_eq (pc : Addr) (y : BitVec 12) : directAddr pc y = (pc &&& 0o170000#16) ||| y.setWidth 16 := by
  have hy : y.setWidth 16 &&& ~~~epcmask = y.setWidth 16 := by
    apply BitVec.eq_of_getLsbD_eq
    intro i hi
    simp only [epcmask, BitVec.getLsbD_and, BitVec.getLsbD_not, BitVec.getLsbD_setWidth]
    interval_cases i <;> simp
  rw [directAddr, inField, hy]
  rfl

/-- Settles O22. -/
theorem effectiveAddress : Obligations.EffectiveAddress := by
  intro y s
  refine ⟨fun ind t hea => ?frame, ?direct, fun hextm hv => ?extended, fun hv hmax => ea_denied hv hmax⟩
  case frame =>
    have hrtb := rtb_of_program (w := false) (.ea ind y) hea
    have hframe := straps_of_ea hea
    rw [SameButLatches, hrtb] at hframe
    exact hframe
  case direct => rw [ea_direct, directAddr_eq]; rfl
  case extended => rw [ea_extended hextm, readWord_of (s := s.withMa (directAddr s.pc y)) hv]; rfl

/-- Settles O23: the cells are read one after the other, each in the field of PC. -/
theorem indirectChain : Obligations.IndirectChain := by
  intro y s n hextm
  have hcells (hv : violation s (directAddr s.pc y) = false) (k : Nat) :
      violation s (chainCell s (directAddr s.pc y) k) = false := by rw [violation_chainCell, hv]
  refine ⟨violation_chainCell s y, fun hv hmax => ?denied, fun hv hlt hind hlast => ?ends, fun hv hmax hind => ?stops⟩
  case denied =>
    rw [ea_denied hv fun _ => hmax, MemoryProofs.recordTrap_access]
    rfl
  case ends =>
    obtain ⟨m, hm⟩ : ∃ m, s.straps.indMax = n + (m + 1) := ⟨s.straps.indMax - n - 1, by omega⟩
    rw [ea_indirect hextm, hm, chase_walk (hcells hv) n (m + 1) hind, chase_walkState (hcells hv n), hlast]
    rfl
  case stops =>
    have hwalk := chase_walk (hcells hv) (n + 1) 0 fun k hk => hind k (Nat.le_of_lt_succ hk)
    rw [ea_indirect hextm, hmax, ← Nat.add_zero (n + 1), hwalk]
    rfl

/-! ### The byte pointer -/

theorem chasePointer_walkState {s : State} {a : Addr} {k : Nat} (hv : violation s (chainCell s a k) = false) (n : Nat) :
    chasePointer (n + 1) (walkState s a k) =
      if hasIndirect (s.word (chainCell s a k)) then chasePointer n (walkState s a (k + 1))
      else .ok { s with mb := s.word (chainCell s a k), ma := chainCell s a k } := by
  rw [chasePointer, readWord_walkState hv]
  rfl

/-- The pointer's walk over `j` cells that all have the indirect flag. -/
theorem chasePointer_walk {s : State} {a : Addr} (hv : ∀ k, violation s (chainCell s a k) = false) (j n : Nat)
    (hind : ∀ k, k < j → hasIndirect (s.word (chainCell s a k)) = true) :
    chasePointer (j + n) (s.withMa a) = chasePointer n (walkState s a j) := by
  induction j generalizing n with
  | zero => rw [Nat.zero_add]; rfl
  | succ j ih =>
    rw [Nat.succ_add_eq_add_succ, ih (n + 1) fun k hk => hind k (hk.trans (Nat.lt_succ_self j)),
      chasePointer_walkState (hv j), if_pos (hind j (Nat.lt_succ_self j))]

/-- The first part of the pointer's resolution: the cell that holds it (R90). -/
def findPointer (y : BitVec 12) (s : State) : Res :=
  if s.extm then readWord (s.withMa (directAddr s.pc y))
  else chasePointer s.straps.indMax (s.withMa (directAddr s.pc y))

theorem eaCh_eq (auto : Bool) (y : BitVec 12) (s : State) :
    eaCh auto y s = ((findPointer y s).andThen fun t => if auto then advancePointer t else .ok t).andThen fun t =>
      .ok (t.withMa (bpAddr t.straps.charFormat t.extm t.pc t.mb)) := rfl

theorem findPointer_denied {s : State} {y : BitVec 12} (hv : violation s (directAddr s.pc y) = true)
    (hmax : s.extm = false → 1 ≤ s.straps.indMax) :
    findPointer y s = .trap { s with ma := directAddr s.pc y, rtb := s.mb &&& 0o37777#18 } := by
  have hread : readWord (s.withMa (directAddr s.pc y)) =
      .trap { s with ma := directAddr s.pc y, rtb := s.mb &&& 0o37777#18 } := by
    rw [readWord_violation (s := s.withMa (directAddr s.pc y)) hv, MemoryProofs.recordTrap_access]
    rfl
  by_cases hextm : s.extm = true
  · rw [findPointer, if_pos hextm, hread]
  · obtain ⟨n, hn⟩ : ∃ n, s.straps.indMax = n + 1 :=
      ⟨_, (Nat.sub_add_cancel (hmax (eq_false_of_ne_true hextm))).symm⟩
    rw [findPointer, if_neg hextm, hn, chasePointer, hread, Res.andThen_trap]

theorem findPointer_stops {s : State} {y : BitVec 12} {n : Nat} (hv : violation s (directAddr s.pc y) = false)
    (hextm : s.extm = false) (hmax : s.straps.indMax = n + 1)
    (hind : ∀ k, k ≤ n → hasIndirect (s.word (chainCell s (directAddr s.pc y) k)) = true) :
    findPointer y s = .stop .ind (walkState s (directAddr s.pc y) (n + 1)) := by
  have hcells (k : Nat) : violation s (chainCell s (directAddr s.pc y) k) = false := by rw [violation_chainCell, hv]
  have hwalk := chasePointer_walk hcells (n + 1) 0 fun k hk => hind k (Nat.le_of_lt_succ hk)
  rw [findPointer, if_neg (ne_true_of_eq_false hextm), hmax, ← Nat.add_zero (n + 1), hwalk]
  rfl

/-- Where the pointer is found: at once in extend mode, at the end of the walk otherwise. -/
theorem findPointer_found {s : State} {y : BitVec 12} {n : Nat} (hv : violation s (directAddr s.pc y) = false)
    (hcase : (s.extm = true ∧ n = 0) ∨ (s.extm = false ∧ n < s.straps.indMax ∧
      hasIndirect (s.word (chainCell s (directAddr s.pc y) n)) = false ∧
      ∀ k, k < n → hasIndirect (s.word (chainCell s (directAddr s.pc y) k)) = true)) :
    findPointer y s = .ok { s with
      mb := s.word (chainCell s (directAddr s.pc y) n), ma := chainCell s (directAddr s.pc y) n } := by
  have hcells (k : Nat) : violation s (chainCell s (directAddr s.pc y) k) = false := by rw [violation_chainCell, hv]
  rcases hcase with ⟨hextm, rfl⟩ | ⟨hextm, hlt, hlast, hind⟩
  · rw [findPointer, if_pos hextm]
    exact readWord_walkState (k := 0) (hcells 0)
  · obtain ⟨m, hm⟩ : ∃ m, s.straps.indMax = n + (m + 1) := ⟨s.straps.indMax - n - 1, by omega⟩
    rw [findPointer, if_neg (ne_true_of_eq_false hextm), hm, chasePointer_walk hcells n (m + 1) hind,
      chasePointer_walkState (hcells n), hlast]
    rfl

theorem advancePointer_crossing {s : State} (hr : restricted s = true)
    (hcross : bpPagecross s.straps.charFormat s.mb = true) : advancePointer s = violate .chr s := by
  rw [advancePointer, hr, hcross]
  rfl

theorem advancePointer_stores {s : State} (h : restricted s = false ∨ bpPagecross s.straps.charFormat s.mb = false)
    (hv : violation s s.ma = false) : advancePointer s =
      .ok ((s.withMb (bpIncr s.straps.charFormat s.mb (ringMode s))).store s.ma
        (bpIncr s.straps.charFormat s.mb (ringMode s))) := by
  have hno : (restricted s && bpPagecross s.straps.charFormat s.mb) = false := by
    rcases h with h | h <;> simp [h]
  rw [advancePointer, hno]
  exact writeWord_of (s := s.withMb _) hv

/-- Settles O26. -/
theorem characterPointer : Obligations.CharacterPointer := by
  rintro y s n c rfl
  refine ⟨fun hv hmax auto => ?denied, fun hv hextm hmax hind auto => ?stops, fun hv hcase => ⟨?plain, ?crosses, ?advances⟩⟩
  case denied => rw [eaCh_eq, findPointer_denied hv hmax]; rfl
  case stops => rw [eaCh_eq, findPointer_stops hv hextm hmax hind]; rfl
  case plain => rw [eaCh_eq, findPointer_found hv hcase]; rfl
  case crosses =>
    intro hr hcross
    have htraps := advancePointer_crossing (s := { s with
      mb := s.word (chainCell s (directAddr s.pc y) n), ma := chainCell s (directAddr s.pc y) n }) hr hcross
    rw [eaCh_eq, findPointer_found hv hcase, Res.andThen_ok, if_pos rfl, htraps]
    rfl
  case advances =>
    intro hno
    have hcell : violation s (chainCell s (directAddr s.pc y) n) = false := by rw [violation_chainCell, hv]
    have hstores := advancePointer_stores (s := { s with
      mb := s.word (chainCell s (directAddr s.pc y) n), ma := chainCell s (directAddr s.pc y) n }) hno hcell
    rw [eaCh_eq, findPointer_found hv hcase, Res.andThen_ok, if_pos rfl, hstores]
    rfl

/-- Settles O27: the word is accessed after the pointer is resolved. -/
theorem characterResults : Obligations.CharacterResults := by
  intro auto y s h1d
  have hlch : exec (.lch auto y) s = ((eaCh auto y s).andThen loadCharacter).finish := by
    show (if s.straps.opt1d then _ else _ : Res).finish = _
    rw [if_pos h1d]
  have hdch : exec (.dch auto y) s = ((eaCh auto y s).andThen depositCharacter).finish := by
    show (if s.straps.opt1d then _ else _ : Res).finish = _
    rw [if_pos h1d]
  rw [hlch, hdch]
  refine ⟨forwards_andThen _ _, forwards_andThen _ _, fun t hea => ⟨fun hv => ⟨?_, ?_⟩, fun hv => ⟨?_, ?_⟩⟩⟩ <;>
    rw [hea, Res.andThen_ok]
  · rw [loadCharacter, readWord_of hv]
    rfl
  · have hwrite := writeWord_of (s := (t.withMb (t.word t.ma)).withMb
      (chPut t.straps.charFormat (t.word t.ma) (pointerShift t) t.ac)) hv
    rw [depositCharacter, readWord_of hv]
    exact congrArg Res.finish hwrite
  · rw [loadCharacter, readWord_violation hv]
    rfl
  · rw [depositCharacter, readWord_violation hv]
    rfl

end Sys2Proof.AddressProofs
end

section
/-! The memory-reference instructions: calls, loads and stores, logic, arithmetic and compare, JSP
(`40_logical_xct.md`, `42_call_load_store.md`, `43_arith.md`, `44_jump_law.md`). -/

namespace Sys2Proof.MemoryReferenceProofs
open Sys2Proof.Machine
open Sys2Proof.InstructionProofs

/-! ### Logic and loads -/

/-- Settles O24. -/
theorem logicalResults : Obligations.LogicalResults := by
  intro ind y s
  refine ⟨fun t hea hv => ⟨?_, ?_, ?_⟩, endsWithoutOperand ind y s _, endsWithoutOperand ind y s _,
    endsWithoutOperand ind y s _⟩ <;> exact finish_operand hea hv _

/-- Settles O29. -/
theorem loadResults : Obligations.LoadResults := by
  intro ind y s
  refine ⟨fun t hea hv => ⟨?_, ?_⟩, endsWithoutOperand ind y s _, endsWithoutOperand ind y s _⟩ <;>
    exact finish_operand hea hv _

/-- Settles O43. -/
theorem jspResult : Obligations.JspResult := by
  intro ind y s
  refine ⟨forwards_andThen _ _, fun t hea => ?_⟩
  have hepc : epcWord t = epcWord s := by rw [straps_of_ea hea]; rfl
  rw [← hepc]
  exact finish_ea hea _

/-! ### The packed PC word and the calls -/

theorem epcWord_getLsbD (s : State) (i : Nat) : (epcWord s).getLsbD i =
    (decide (i = 17) && s.ov || decide (i = 16) && s.extm || s.pc.getLsbD i) := by
  simp only [epcWord, BitVec.getLsbD_or, BitVec.getLsbD_shiftLeft, BitVec.getLsbD_setWidth]
  by_cases hi : i < 18
  · interval_cases i <;> simp
  · have hpc := BitVec.getLsbD_of_ge s.pc i (by omega)
    simp [hi, hpc, show i ≠ 17 by omega, show i ≠ 16 by omega]

theorem epcWord_ov (s : State) : (epcWord s).getLsbD 17 = s.ov := by
  rw [epcWord_getLsbD, BitVec.getLsbD_of_ge s.pc 17 (by decide)]
  simp

theorem epcWord_extm (s : State) : (epcWord s).getLsbD 16 = s.extm := by
  rw [epcWord_getLsbD, BitVec.getLsbD_of_ge s.pc 16 (by decide)]
  simp

theorem epcWord_pc (s : State) : (epcWord s).setWidth 16 = s.pc := by
  apply BitVec.eq_of_getLsbD_eq
  intro i hi
  rw [BitVec.getLsbD_setWidth, epcWord_getLsbD]
  simp [hi, show i ≠ 17 by omega, show i ≠ 16 by omega]

/-- A dismissal's restore of a packed PC word. -/
theorem restorePc_epcWord (s t : State) : restorePc { t with mb := epcWord s } =
    { t with mb := epcWord s, ov := s.ov, extm := s.extm, pc := s.pc } := by
  rw [restorePc, epcWord_ov, epcWord_extm, epcWord_pc]

theorem callAt_allowed {s : State} {a : Addr} (hv : violation s a = false) : callAt a s = .ok { s with
    ma := a, mb := s.ac, mem := s.stored a s.ac, ac := epcWord s, pc := incrAddr a } :=
  writeWord_of (s := { s with ma := a, mb := s.ac, ac := epcWord s, pc := incrAddr a }) hv

theorem callAt_denied {s : State} {a : Addr} (hv : violation s a = true) : callAt a s = .trap { s with
    ma := a, mb := s.ac, rtb := s.ac &&& 0o37777#18, ac := epcWord s, pc := incrAddr a } := by
  have hwrite := writeWord_violation (s := { s with ma := a, mb := s.ac, ac := epcWord s, pc := incrAddr a }) hv
  rw [MemoryProofs.recordTrap_access] at hwrite
  exact hwrite

/-- Settles O28. -/
theorem callResults : Obligations.CallResults := by
  intro y s
  exact ⟨⟨epcWord_ov s, epcWord_extm s, epcWord_pc s, restorePc_epcWord s⟩,
    fun hv => congrArg Res.finish (callAt_allowed hv), fun hv => congrArg Res.finish (callAt_allowed hv),
    fun hv => congrArg Res.finish (callAt_denied hv), fun hv => congrArg Res.finish (callAt_denied hv)⟩

/-! ### Stores -/

theorem storeValue_allowed {ind : Bool} {y : BitVec 12} {s t : State} (hea : ea ind y s = .ok t)
    (hv : violation t t.ma = false) (v : State → Word) :
    (storeValue v ind y s).finish = .next { t with mb := v t, mem := t.stored t.ma (v t) } := by
  rw [storeValue, finish_ea hea, writeWord_of (s := t.withMb (v t)) hv]
  rfl

theorem storeValue_denied {ind : Bool} {y : BitVec 12} {s t : State} (hea : ea ind y s = .ok t)
    (hv : violation t t.ma = true) (v : State → Word) :
    (storeValue v ind y s).finish = .next (trapRedirect { t with mb := v t, rtb := v t &&& 0o37777#18 }) := by
  rw [storeValue, finish_ea hea, writeWord_violation (s := t.withMb (v t)) hv, MemoryProofs.recordTrap_access]
  rfl

/-- Settles O30. -/
theorem storeResults : Obligations.StoreResults := by
  intro ind y s
  refine ⟨forwards_andThen _ _, forwards_andThen _ _, forwards_andThen _ _, fun t hea => ⟨fun hv => ?allowed, fun hv => ?denied⟩⟩
  case allowed => exact ⟨storeValue_allowed hea hv _, storeValue_allowed hea hv _, storeValue_allowed hea hv _⟩
  case denied => exact ⟨storeValue_denied hea hv _, storeValue_denied hea hv _, storeValue_denied hea hv fun _ => 0#18⟩

theorem storeMerged_allowed {ind : Bool} {y : BitVec 12} {s t : State} (hea : ea ind y s = .ok t)
    (hv : violation t t.ma = false) (f : State → Word) :
    (storeMerged f ind y s).finish = .next { t with
      mb := f (t.withMb (t.word t.ma)), mem := t.stored t.ma (f (t.withMb (t.word t.ma))) } := by
  have hwrite := writeWord_of (s := (t.withMb (t.word t.ma)).withMb (f (t.withMb (t.word t.ma)))) hv
  rw [storeMerged, finish_operand hea hv, hwrite]
  rfl

/-- Settles O31. -/
theorem partialStoreResults : Obligations.PartialStoreResults := by
  intro ind y s low hlow
  refine ⟨fun t hea hv => ?_, endsWithoutOperand ind y s _, endsWithoutOperand ind y s _⟩
  have hstraps : t.straps = s.straps := (congrArg State.straps (straps_of_ea hea) :)
  have hmask : low = lowMask t.straps.dapWidth := by
    rw [hlow, hstraps]
    cases s.straps.dapWidth <;> rfl
  rw [hmask]
  exact ⟨storeMerged_allowed hea hv dapWord, storeMerged_allowed hea hv dipWord⟩

/-- The word that a direct partial store of an unrestricted program leaves, and what else it leaves. -/
theorem direct_storeMerged {s t : State} {y : BitVec 12} {f : State → Word} (hwf : s.mem.wf = true)
    (hr : restricted s = false) (hin : (directAddr s.pc y).toNat < s.straps.memsize)
    (h : (storeMerged f false y s).finish = .next t) :
    t.word (directAddr s.pc y) = f { s with ma := directAddr s.pc y, mb := s.word (directAddr s.pc y) } ∧
      t.mem.wf = true ∧ restricted t = false ∧ t.pc = s.pc ∧ t.straps = s.straps := by
  have hv : violation (s.withMa (directAddr s.pc y)) (directAddr s.pc y) = false := violation_of_unrestricted hr _
  rw [storeMerged_allowed (ea_direct y s) hv] at h
  cases h
  exact ⟨State.word_store_same _ hwf hin, State.stored_wf _ _ hwf, hr, rfl, rfl⟩

/-- Settles O32: the second store merges into the word that the first has left. -/
theorem dapAndDipReconstruct : Obligations.DapAndDipReconstruct := by
  intro y a b s t u hwf hr hin hruns
  have hlow (m : Word) : (b &&& ~~~m) ||| (((a &&& m) ||| (s.word (directAddr s.pc y) &&& ~~~m)) &&& m) =
      (a &&& m) ||| (b &&& ~~~m) := by
    ext i hi
    simp only [BitVec.getElem_or, BitVec.getElem_and, BitVec.getElem_not]
    cases m[i] <;> simp
  have hhigh (m : Word) : (a &&& m) ||| (((b &&& ~~~m) ||| (s.word (directAddr s.pc y) &&& m)) &&& ~~~m) =
      (a &&& m) ||| (b &&& ~~~m) := by
    ext i hi
    simp only [BitVec.getElem_or, BitVec.getElem_and, BitVec.getElem_not]
    cases m[i] <;> simp
  rcases hruns with ⟨hfirst, hsecond⟩ | ⟨hfirst, hsecond⟩
  · obtain ⟨hword, hwft, hrt, hpc, hstraps⟩ := direct_storeMerged (s := { s with ac := a }) hwf hr hin hfirst
    have hdone := (direct_storeMerged (s := { t with ac := b }) (y := y) hwft hrt (by rw [hpc, hstraps]; exact hin) hsecond).1
    rw [hpc] at hdone
    rw [hdone]
    show (b &&& _) ||| (t.word _ &&& lowMask t.straps.dapWidth) = _
    rw [hword, hstraps]
    exact hlow _
  · obtain ⟨hword, hwft, hrt, hpc, hstraps⟩ := direct_storeMerged (s := { s with ac := b }) hwf hr hin hfirst
    have hdone := (direct_storeMerged (s := { t with ac := a }) (y := y) hwft hrt (by rw [hpc, hstraps]; exact hin) hsecond).1
    rw [hpc] at hdone
    rw [hdone]
    show (a &&& _) ||| (t.word _ &&& ~~~(lowMask t.straps.dapWidth)) = _
    rw [hword, hstraps]
    exact hhigh _

/-! ### Sums -/

theorem endAroundAdd_toNat (a b : Word) : (endAroundAdd a b).toNat =
    if a.toNat + b.toNat > 0o777777 then (a.toNat + b.toNat + 1) % 2 ^ 18 else a.toNat + b.toNat := by
  have ha := a.isLt
  have hb := b.isLt
  simp only [endAroundAdd, BitVec.toNat_ofNat]
  split <;> omega

/-- Overflow, read off the signs. -/
theorem addOverflows_eq (a b r : Word) : addOverflows a b r =
    (a.getLsbD 17 == b.getLsbD 17 && a.getLsbD 17 != r.getLsbD 17) := by
  simp only [addOverflows, signOf, BitVec.getLsbD_and, BitVec.getLsbD_xor, BitVec.getLsbD_not]
  cases a.getLsbD 17 <;> cases b.getLsbD 17 <;> cases r.getLsbD 17 <;> rfl

theorem not_getLsbD_sign (a : Word) : (~~~a).getLsbD 17 = !a.getLsbD 17 := by
  rw [BitVec.getLsbD_not]
  rfl

/-- Settles O34. -/
theorem addResult : Obligations.AddResult := by
  intro ind y s
  refine ⟨endsWithoutOperand ind y s _, fun t hea hv => ⟨endAroundAdd t.ac (t.word t.ma), endAroundAdd_toNat _ _, ?_⟩⟩
  rw [← addOverflows_eq]
  exact finish_operand hea hv _

/-- Settles O36: the overflow test on the complemented accumulator, in the signs of the operands themselves. -/
theorem subResult : Obligations.SubResult := by
  intro ind y s
  refine ⟨endsWithoutOperand ind y s _,
    fun t hea hv => ⟨endAroundAdd (~~~t.ac) (t.word t.ma), endAroundAdd_toNat _ _, ?_⟩⟩
  have hov (a b r : Word) : (a.getLsbD 17 != b.getLsbD 17 && a.getLsbD 17 == r.getLsbD 17) = addOverflows (~~~a) b r := by
    rw [addOverflows_eq, not_getLsbD_sign]
    cases a.getLsbD 17 <;> cases b.getLsbD 17 <;> cases r.getLsbD 17 <;> rfl
  rw [hov]
  exact finish_operand hea hv _

/-- No carry of the three summands leaves the 19 bits. -/
theorem tadSum_toNat (a b : Word) (l : Bool) : (tadSum a b l).toNat = a.toNat + b.toNat + l.toNat := by
  have ha := a.isLt
  have hb := b.isLt
  have hl : l.toNat ≤ 1 := Bool.toNat_le l
  simp only [tadSum, BitVec.toNat_add, BitVec.toNat_setWidth, BitVec.toNat_ofBool]
  omega

theorem tadSum_carry (a b : Word) (l : Bool) :
    (tadSum a b l).getLsbD 18 = true ↔ 2 ^ 18 ≤ a.toNat + b.toNat + l.toNat := by
  have hlt := (tadSum a b l).isLt
  rw [← tadSum_toNat, BitVec.getLsbD, Nat.testBit_eq_decide_div_mod_eq, decide_eq_true_eq]
  omega

theorem withLink_getLsbD (pf : BitVec 8) (l : Bool) : (withLink pf l).getLsbD 7 = l := by
  simp [withLink]

theorem withLink_setWidth (pf : BitVec 8) (l : Bool) : (withLink pf l).setWidth 7 = pf.setWidth 7 := by
  apply BitVec.eq_of_getLsbD_eq
  intro i hi
  simp only [withLink, BitVec.getLsbD_setWidth, BitVec.getLsbD_or, BitVec.getLsbD_and, BitVec.getLsbD_shiftLeft]
  interval_cases i <;> simp

/-- Settles O33. -/
theorem tadResult : Obligations.TadResult := by
  intro ind y s h1d
  have hexec : exec (.tad ind y) s = ((operand ind y s).andThen fun t => .ok (addWithLink t)).finish := by
    show (if s.straps.opt1d then _ else _ : Res).finish = _
    rw [if_pos h1d]
  rw [hexec]
  refine ⟨endsWithoutOperand ind y s _, fun t hea hv => ?_⟩
  have hac : (tadSum t.ac (t.word t.ma) (linkOf t)).setWidth 18 =
      BitVec.ofNat 18 (t.ac.toNat + (t.word t.ma).toNat + (t.pf.getLsbD 7).toNat) := by
    apply BitVec.eq_of_toNat_eq
    rw [BitVec.toNat_setWidth, tadSum_toNat, BitVec.toNat_ofNat]
    rfl
  rw [← hac]
  exact ⟨(tadSum t.ac (t.word t.ma) (linkOf t)).getLsbD 18, _, finish_operand hea hv _, tadSum_carry _ _ _,
    withLink_getLsbD _ _, withLink_setWidth _ _⟩

/-! ### Counting and comparing -/

theorem indexResult_eq (m : Word) : indexResult m =
    if m = 0o777776#18 then 0#18 else if m = 0o777777#18 then 1#18 else m + 1#18 := by
  have hm := m.isLt
  apply BitVec.eq_of_toNat_eq
  by_cases h6 : m = 0o777776#18
  · subst h6
    rfl
  · by_cases h7 : m = 0o777777#18
    · subst h7
      rfl
    · have h6 : m.toNat ≠ 0o777776 := fun h => h6 (BitVec.eq_of_toNat_eq h)
      have h7 : m.toNat ≠ 0o777777 := fun h => h7 (BitVec.eq_of_toNat_eq h)
      rw [if_neg ‹_›, if_neg ‹_›, indexResult, BitVec.toNat_ofNat, BitVec.toNat_add, BitVec.toNat_ofNat, if_neg (by omega)]

theorem indexMemory_allowed {ind : Bool} {y : BitVec 12} {s t : State} (hea : ea ind y s = .ok t)
    (hv : violation t t.ma = false) : indexMemory ind y s = .ok { t with
      mb := indexResult (t.word t.ma), ac := indexResult (t.word t.ma)
      mem := t.stored t.ma (indexResult (t.word t.ma)) } := by
  rw [indexMemory, operand_of hea hv, Res.andThen_ok]
  exact writeWord_of (s := { t with mb := indexResult (t.word t.ma), ac := indexResult (t.word t.ma) }) hv

/-- Settles O38. -/
theorem indexResults : Obligations.IndexResults := by
  intro ind y s
  refine ⟨endsWithoutOperand ind y s _, ?early, fun t hea hv => ⟨_, indexResult_eq _, ?idx, ?isp⟩⟩
  case early =>
    show EndsWithoutOperand ind y s ((indexMemory ind y s).andThen _).finish
    rw [indexMemory, andThen_assoc]
    exact endsWithoutOperand ind y s _
  case idx => exact congrArg Res.finish (indexMemory_allowed hea hv)
  case isp =>
    show ((indexMemory ind y s).andThen _).finish = _
    rw [indexMemory_allowed hea hv, Res.andThen_ok, State.skipIf_eq, signOf]
    cases (indexResult (t.word t.ma)).getLsbD 17 <;> rfl

/-- Settles O39. -/
theorem compareResults : Obligations.CompareResults := by
  intro ind y s
  refine ⟨endsWithoutOperand ind y s _, endsWithoutOperand ind y s _, fun t hea hv => ⟨?sad, ?sas⟩⟩
  case sad =>
    refine (finish_operand hea hv _).trans ?_
    rw [State.skipIf_eq]
    by_cases h : t.ac = t.word t.ma <;> simp [h]
  case sas =>
    refine (finish_operand hea hv _).trans ?_
    rw [State.skipIf_eq]
    by_cases h : t.ac = t.word t.ma <;> simp [h]

/-! ### The multiply step and the divide step -/

/-- The accumulator after the divide step, from the sum `n` that it makes (R115). -/
theorem disResult_fst {ac io m d : Word} {n : Nat}
    (hn : n = if signOf ac then ((ac <<< 1) ||| (io >>> 17)).toNat + m.toNat + 1
      else ((ac <<< 1) ||| (io >>> 17)).toNat + (~~~m).toNat)
    (hd : d.toNat = if n > 0o777777 then (n + 1) % 2 ^ 18 else n) :
    (disResult ac io m).1 = if d = 0o777777#18 then 0#18 else d := by
  have hsum : d = BitVec.ofNat 18 (if n > 0o777777 then n + 1 else n) := by
    have hlt := d.isLt
    apply BitVec.eq_of_toNat_eq
    rw [hd, BitVec.toNat_ofNat]
    split <;> omega
  have hbit : ((io <<< 1) ||| (BitVec.ofBool (!signOf ac)).setWidth 18).getLsbD 0 = !signOf ac := by simp
  show cleanMinusZero _ = _
  rw [hbit, hsum, hn]
  cases signOf ac <;> rfl

/-- Settles O42. -/
theorem stepResults : Obligations.StepResults := by
  intro ind y s
  refine ⟨endsWithoutOperand ind y s _, endsWithoutOperand ind y s _, fun t hea hv => ⟨?mus, ?dis⟩⟩
  case mus =>
    rintro a rfl
    exact finish_operand hea hv _
  case dis =>
    rintro a i d rfl rfl hd
    have hac : (disResult t.ac t.io (t.word t.ma)).1 = if d = 0o777777#18 then 0#18 else d := by
      refine disResult_fst rfl (hd.trans ?_)
      cases signOf t.ac <;> rfl
    rw [← hac]
    refine (finish_operand hea hv _).trans ?_
    have hio : (disResult t.ac t.io (t.word t.ma)).2 = (t.io <<< 1) ||| (if signOf t.ac then 0#18 else 1#18) := by
      show (t.io <<< 1) ||| (BitVec.ofBool (!signOf t.ac)).setWidth 18 = _
      cases signOf t.ac <;> rfl
    rw [← hio]
    rfl

end Sys2Proof.MemoryReferenceProofs
end

section
/-! The engine loop, the hook, the entry of a break and its dismissal, the console (`60_exceptions.md`,
`44_jump_law.md`, `70_reset_and_hazards.md`). -/

namespace Sys2Proof.EngineProofs
open Sys2Proof.Machine
open Sys2Proof.InstructionProofs
open Sys2Proof.MemoryReferenceProofs

/-! ### The order of an iteration (R170) -/

theorem step_running {s : State} (h : s.run = .running) : step s = iteration s := by rw [step, h]

theorem step_stopped {s : State} {r : Option StopReason} (h : s.run = .stopped r) : step s = .next (consoleStep s) := by
  rw [step, h]

theorem iteration_forcedStop {s : State} {k : Nat} (h : (nextHook s).stop = some k) :
    iteration s = .next ((runHook s).stopWith (.external k)) := by
  rw [iteration, h]
  rfl

theorem iteration_entry {s : State} (hstop : (nextHook s).stop = none) (hadm : admissible (runHook s) = true) :
    iteration s = (interruptEntry (runHook s)).finish := by
  rw [iteration, hstop]
  exact if_pos hadm

theorem iteration_breakpoint {s : State} (hstop : (nextHook s).stop = none) (hadm : admissible (runHook s) = false)
    (hbkpt : (nextHook s).breakpoint = true) : iteration s = .next ((runHook s).stopWith .ibkpt) := by
  rw [iteration, hstop]
  exact (if_neg (ne_true_of_eq_false hadm)).trans (if_pos hbkpt)

theorem iteration_fetch {s : State} (hstop : (nextHook s).stop = none) (hadm : admissible (runHook s) = false)
    (hbkpt : (nextHook s).breakpoint = false) : iteration s = fetchAndExecute (runHook s) := by
  rw [iteration, hstop]
  exact (if_neg (ne_true_of_eq_false hadm)).trans (if_neg (ne_true_of_eq_false hbkpt))

/-- Settles O4. -/
theorem stepRunsTheFetchedInstruction : Obligations.StepRunsTheFetchedInstruction := by
  rintro s t hrun rfl hstop hadm hbkpt hv
  have hread : fetchRead (runHook s) =
      .ok (((runHook s).withMa (runHook s).pc).withMb ((runHook s).word (runHook s).pc)) :=
    readWord_of (s := (runHook s).withMa (runHook s).pc) hv
  rw [step_running hrun, iteration_fetch hstop hadm hbkpt, fetchAndExecute, hread]
  rfl

/-- Settles O5. -/
theorem fetchViolationIsRedirected : Obligations.FetchViolationIsRedirected := by
  rintro s t hrun rfl hstop hadm hbkpt hv
  have hread : fetchRead (runHook s) = .trap (((runHook s).withMa (runHook s).pc).recordTrap .access) :=
    readWord_violation (s := (runHook s).withMa (runHook s).pc) hv
  rw [step_running hrun, iteration_fetch hstop hadm hbkpt, fetchAndExecute, hread]
  rfl

/-! ### Interrupt entry (R177) -/

/-- A store of entry, whatever the latches and memory hold. -/
theorem writeAt_unrestricted {s : State} (hr : restricted s = false) (x : Addr) (y : Word) (m : Memory) (a : Addr)
    (v : Word) : writeAt a v { s with ma := x, mb := y, mem := m } =
      .ok { s with ma := a, mb := v, mem := { s with mem := m }.stored a v } :=
  writeAt_of (s := { s with ma := x, mb := y, mem := m }) (violation_of_unrestricted hr a)

/-- Entry in a machine that is not restricted once the request is taken: the three stores go through. -/
theorem interruptEntry_of_unrestricted {s t : State} (ht : takeRequest s = t) (hr : restricted t = false) :
    interruptEntry s = .ok { t with
      mem := (((t.store (entryBlock s) s.ac).store (entryBlock s + 1#16) (epcWord t)).store
        (entryBlock s + 2#16) t.io).mem
      ma := entryBlock s + 2#16, mb := t.io, pc := entryBlock s + 3#16, extm := false, ov := false } := by
  have hfirst := writeAt_unrestricted hr t.ma t.mb t.mem (entryBlock s) s.ac
  have hsecond := writeAt_unrestricted hr (entryBlock s) s.ac (t.stored (entryBlock s) s.ac) (entryBlock s + 1#16)
    (epcWord t)
  have hthird := writeAt_unrestricted hr (entryBlock s + 1#16) (epcWord t)
    ((t.store (entryBlock s) s.ac).stored (entryBlock s + 1#16) (epcWord t)) (entryBlock s + 2#16) t.io
  unfold Machine.interruptEntry
  dsimp only
  rw [ht]
  refine (congrArg (fun r : Res => Res.andThen (Res.andThen (Res.andThen r _) _) _) hfirst).trans ?_
  refine (congrArg (fun r : Res => Res.andThen (Res.andThen r _) _) hsecond).trans ?_
  exact congrArg (fun r : Res => Res.andThen r _) hthird

/-- An active level lifts the restriction (R54). -/
theorem setLevel_ne_zero (m : BitVec 16) (l : BitVec 4) : setLevel m l ≠ 0#16 := by
  intro h
  have hbit := ExceptionProofs.getLsbD_setLevel m l l.toNat
  rw [h, if_pos rfl] at hbit
  simp at hbit

theorem takeRequest_sixteen {s : State} (h : s.straps.sbs16 = true) : takeRequest s = { s with
    sbsReq := clearLevel s.sbsReq (pendingLevel s), sbsAct := setLevel s.sbsAct (pendingLevel s)
    sbsLvl := sbsEval (clearLevel s.sbsReq (pendingLevel s)) (setLevel s.sbsAct (pendingLevel s)) } := by
  rw [takeRequest, if_pos h]
  rfl

theorem takeRequest_one {s : State} (h : s.straps.sbs16 = false) :
    takeRequest s = { s with sbs := { s.sbs with ip := true, rq := false } } := by
  rw [takeRequest, if_neg (ne_true_of_eq_false h)]

theorem interruptEntry_sixteen {s : State} (h : s.straps.sbs16 = true) :
    interruptEntry s = .ok { s with
      sbsReq := clearLevel s.sbsReq (pendingLevel s)
      sbsAct := setLevel s.sbsAct (pendingLevel s)
      sbsLvl := sbsEval (clearLevel s.sbsReq (pendingLevel s)) (setLevel s.sbsAct (pendingLevel s))
      mem := (((s.store (statusBlock (pendingLevel s)) s.ac).store (statusBlock (pendingLevel s) + 1#16)
        (epcWord s)).store (statusBlock (pendingLevel s) + 2#16) s.io).mem
      ma := statusBlock (pendingLevel s) + 2#16
      mb := s.io
      pc := statusBlock (pendingLevel s) + 3#16
      extm := false
      ov := false } := by
  have hr : restricted (takeRequest s) = false := by
    rw [takeRequest_sixteen h, restricted, beq_eq_false_iff_ne.mpr (setLevel_ne_zero _ _), Bool.and_false]
  have hblk : entryBlock s = statusBlock (pendingLevel s) := if_pos h
  rw [takeRequest_sixteen h] at hr
  rw [interruptEntry_of_unrestricted (takeRequest_sixteen h) hr, hblk]
  rfl

theorem interruptEntry_one {s : State} (h : s.straps.sbs16 = false) (hrm : s.rm = false) :
    interruptEntry s = .ok { s with
      sbs := { s.sbs with ip := true, rq := false }
      mem := (((s.store 0#16 s.ac).store 1#16 (epcWord s)).store 2#16 s.io).mem
      ma := 2#16
      mb := s.io
      pc := 3#16
      extm := false
      ov := false } := by
  have hr : restricted (takeRequest s) = false := by
    rw [takeRequest_one h, restricted]
    show (s.rm && _) = false
    rw [hrm, Bool.false_and]
  have hblk : entryBlock s = 0#16 := if_neg (ne_true_of_eq_false h)
  rw [takeRequest_one h] at hr
  rw [interruptEntry_of_unrestricted (takeRequest_one h) hr, hblk]
  rfl

/-- Settles O6. -/
theorem interruptEntry : Obligations.InterruptEntry := by
  rintro s t hrun rfl hstop hadm
  rw [step_running hrun, iteration_entry hstop hadm]
  exact ⟨fun h => congrArg Res.finish (interruptEntry_sixteen h),
    fun h hrm => congrArg Res.finish (interruptEntry_one h hrm)⟩

/-! ### The hook (R170, R171) -/

theorem nextHook_cons {s : State} {x : Hook} {hs : List Hook} (h : s.hooks = x :: hs) : nextHook s = x := by
  rw [nextHook, h]
  rfl

/-- What follows the hook's actions: an evaluation with the 16-channel controller. -/
def evalWithController (t : State) : State := if t.straps.sbs16 then t.evalBreaks else t

theorem evalWithController_eq (t : State) :
    evalWithController t = { t with sbsLvl := if t.straps.sbs16 then sbsEval t.sbsReq t.sbsAct else t.sbsLvl } := by
  unfold evalWithController
  split <;> rfl

theorem runHook_nil {s : State} (h : s.hooks = []) : runHook s = evalWithController s := by
  have hs : { s with hooks := s.hooks.tail } = s := by
    rw [h]
    show { s with hooks := [] } = s
    rw [← h]
  have hnext : (nextHook s).actions = [] := by rw [nextHook, h]; rfl
  unfold runHook
  rw [hnext, hs]
  rfl

theorem runHook_cons {s : State} {x : Hook} {hs : List Hook} (h : s.hooks = x :: hs) : runHook s =
    evalWithController (x.actions.foldl (fun u a => hookAction a u) { s with hooks := hs }) := by
  unfold runHook
  rw [nextHook_cons h, h]
  rfl

/-- No action of the hook looks at the hooks that are left. -/
theorem hookAction_hooks (x : HookAction) (s : State) (hs : List Hook) :
    hookAction x { s with hooks := hs } = { hookAction x s with hooks := hs } := by
  cases x with
  | port p =>
    cases p with
    | breakRequest l =>
      show breakRequest l { s with hooks := hs } = { breakRequest l s with hooks := hs }
      unfold breakRequest
      dsimp only
      split
      · split <;> rfl
      · rfl
    | _ => rfl
  | _ => rfl

theorem mem_oweCompletion {d e : BitVec 6} {ds : List (BitVec 6)} : e ∈ oweCompletion d ds ↔ e = d ∨ e ∈ ds := by
  unfold oweCompletion
  split
  next h =>
    have hd : d ∈ ds := List.contains_iff_mem.mp h
    exact ⟨.inr, fun he => he.elim (fun heq => heq ▸ hd) id⟩
  next => exact List.mem_cons

/-- Settles O7. -/
theorem forcedStopAndBreakpoint : Obligations.ForcedStopAndBreakpoint := by
  refine ⟨fun s hrun => ?order, fun s k b hs => ⟨fun h => ?nothing, fun h => ?noAction, fun x xs h => ?action⟩,
    fun s a v t ht => ?dma, fun s a d l => ?ports⟩
  case order =>
    rw [step_running hrun]
    exact ⟨fun k => iteration_forcedStop, fun hstop hadm _ => iteration_entry hstop hadm, iteration_breakpoint⟩
  case nothing => rw [runHook_nil h, evalWithController_eq]
  case noAction => rw [runHook_cons h, evalWithController_eq]; rfl
  case action =>
    rw [runHook_cons h, runHook_cons (s := { hookAction x s with hooks := ⟨xs, k, b⟩ :: hs }) rfl, List.foldl_cons,
      hookAction_hooks]
  case dma =>
    obtain rfl : t = s.store a v := ht
    exact ⟨rfl, fun c hc => State.word_store_other s v hc, fun hm hlt => State.word_store_same v hm hlt,
      fun hge => congrArg (fun m => { s with mem := m }) (MemoryProofs.stored_of_memsize_le v hge)⟩
  case ports =>
    exact ⟨rfl, rfl, fun hnodup => ⟨s.cpls.erase d, rfl, fun e => by rw [hnodup.mem_erase_iff, and_comm]⟩,
      ⟨oweCompletion d s.cpls, rfl, fun e => mem_oweCompletion⟩, fun _ => rfl, fun _ => rfl⟩

/-! ### The console (R195, R210 to R217) -/

theorem consoleStep_cons {s : State} {c : ConsoleCmd} {cs : List ConsoleCmd} (h : s.console = c :: cs) :
    consoleStep s = consoleCommand c { s with console := cs } := by
  rw [consoleStep, h]

/-- Settles O9. -/
theorem stoppedMachine : Obligations.StoppedMachine := by
  intro s r cs hrun
  rw [step_stopped hrun]
  refine ⟨fun h => ?nothing, ?_, ?_, ?_, ?_, fun a v h => ?deposit, ?_, ?_, ?_, ?_, fun i x h => ?limits, ?_⟩
  case nothing => rw [consoleStep, h]
  case deposit =>
    refine ⟨s.stored a v, by rw [consoleStep_cons h]; rfl, fun b hb => State.word_store_other s v hb,
      fun hm hlt => State.word_store_same v hm hlt, MemoryProofs.stored_of_memsize_le v⟩
  case limits =>
    have hmax : (if 1 ≤ i then i else s.straps.indMax) = if i = 0 then s.straps.indMax else i := by
      by_cases hi : i = 0
      · rw [if_neg (by omega), if_pos hi]
      · rw [if_pos (by omega), if_neg hi]
    rw [consoleStep_cons h, ← hmax]
    rfl
  all_goals
    intros
    rw [consoleStep_cons ‹_›]
    rfl

/-! ### JMP, the dismissal, LAW (R120 to R123) -/

/-- Settles O47. -/
theorem lawResult : Obligations.LawResult := by
  intro n s
  have hnot : 0o777777#18 - n.setWidth 18 = ~~~(n.setWidth 18) := BitVec.allOnes_sub_eq_not _
  rw [hnot]
  exact ⟨rfl, rfl⟩

theorem exec_jmpDismiss_of {l : BitVec 4} {s : State} (h : dismisses l s = true) :
    exec (.jmpDismiss l) s = (dismiss l s).finish := by
  show (if dismisses l s then _ else _ : Res).finish = _
  rw [if_pos h]

/-- Settles O44. -/
theorem jumpResults : Obligations.JumpResults := by
  intro s
  refine ⟨fun ind y => ⟨forwards_andThen _ _, fun t hea => finish_ea hea _⟩, fun l hno => ?_⟩
  have hdismisses : dismisses l s = false := by
    rcases hno with hon | hfield | ⟨hsbs, hl⟩
    · rw [dismisses, hon]
      rfl
    · have hfield : (s.pc &&& epcmask == 0#16) = false := beq_eq_false_iff_ne.mpr hfield
      rw [dismisses, hfield, Bool.and_false, Bool.false_and]
    · rw [dismisses, hsbs, beq_eq_false_iff_ne.mpr hl, Bool.or_false, Bool.and_false]
  show (if dismisses l s then _ else _ : Res).finish = _
  rw [if_neg (ne_true_of_eq_false hdismisses)]
  rfl

theorem statusBlock_toNat (l : BitVec 4) : (statusBlock l).toNat = 4 * l.toNat := by
  have hl := l.isLt
  rw [statusBlock, BitVec.toNat_shiftLeft, BitVec.toNat_setWidth, Nat.shiftLeft_eq]
  omega

theorem statusBlock_add_toNat (l : BitVec 4) {k : Nat} (hk : k < 4) :
    (statusBlock l + BitVec.ofNat 16 k).toNat = 4 * l.toNat + k := by
  have hl := l.isLt
  rw [BitVec.toNat_add, statusBlock_toNat, BitVec.toNat_ofNat]
  omega

/-- The read of a dismissal, under the protection that holds once the level is left (D42). -/
theorem dismiss_allowed {l : BitVec 4} {s : State} (hv : violation (leaveLevel l s) (statusBlock l + 1#16) = false) :
    dismiss l s = .ok (restorePc { leaveLevel l s with
      ma := statusBlock l + 1#16, mb := (leaveLevel l s).word (statusBlock l + 1#16) }) := by
  rw [dismiss, readWord_of (s := (leaveLevel l s).withMa (statusBlock l + 1#16)) hv]
  rfl

theorem dismiss_denied {l : BitVec 4} {s : State} (hv : violation (leaveLevel l s) (statusBlock l + 1#16) = true) :
    dismiss l s = .trap (((leaveLevel l s).withMa (statusBlock l + 1#16)).recordTrap .access) := by
  rw [dismiss, readWord_violation (s := (leaveLevel l s).withMa (statusBlock l + 1#16)) hv]
  rfl

/-- Settles O45. -/
theorem dismissalResults : Obligations.DismissalResults := by
  intro l s t a hon hfield ha hconfig
  have haddr : a = statusBlock l + 1#16 := by
    have hl := l.isLt
    apply BitVec.eq_of_toNat_eq
    rw [ha, statusBlock_add_toNat l (by decide), BitVec.toNat_ofNat]
    omega
  have hleave : leaveLevel l s = t := by
    rcases hconfig with ⟨hsbs, rfl⟩ | ⟨hsbs, -, rfl⟩
    · rw [leaveLevel, if_pos hsbs]
      rfl
    · rw [leaveLevel, if_neg (ne_true_of_eq_false hsbs)]
  have hdismisses : dismisses l s = true := by
    have hfield : (s.pc &&& epcmask == 0#16) = true := beq_iff_eq.mpr hfield
    rw [dismisses, hon, hfield]
    rcases hconfig with ⟨hsbs, -⟩ | ⟨-, rfl, -⟩
    · rw [hsbs]
      rfl
    · simp
  rw [exec_jmpDismiss_of hdismisses, haddr, ← hleave]
  refine ⟨fun hv => ?_, fun hv => ?_⟩
  · rw [dismiss_allowed hv]
    rfl
  · rw [dismiss_denied hv]
    rfl

theorem clearLevel_setLevel {m : BitVec 16} {l : BitVec 4} (h : m.getLsbD l.toNat = false) :
    clearLevel (setLevel m l) l = m := by
  apply BitVec.eq_of_getLsbD_eq
  intro k hk
  rw [ExceptionProofs.getLsbD_clearLevel _ _ hk, ExceptionProofs.getLsbD_setLevel]
  by_cases hkl : k = l.toNat
  · rw [if_pos hkl, hkl, h]
  · rw [if_neg hkl, if_neg hkl]

theorem field_of_lt {a : Addr} (h : a.toNat < 4096) : a &&& epcmask = 0#16 := by
  have hsame : inField 0#16 a = a := by
    apply BitVec.eq_of_toNat_eq
    rw [AddressProofs.inField_toNat, BitVec.toNat_ofNat]
    omega
  rw [← hsame, AddressProofs.inField_and_epcmask, BitVec.zero_and]

/-- The three words of a status block, read back. -/
theorem word_of_block {s : State} (hwf : s.mem.wf = true) (l : BitVec 4) (v0 v1 v2 : Word) :
    let t := ((s.store (statusBlock l) v0).store (statusBlock l + 1#16) v1).store (statusBlock l + 2#16) v2
    t.word (statusBlock l) = v0 ∧ t.word (statusBlock l + 1#16) = v1 ∧ t.word (statusBlock l + 2#16) = v2 := by
  have hl := l.isLt
  have hmemsize : 4096 ≤ s.straps.memsize := Nat.le_mul_of_pos_left 4096 (Nat.succ_pos _)
  have h0 := statusBlock_toNat l
  have h1 := statusBlock_add_toNat l (k := 1) (by decide)
  have h2 := statusBlock_add_toNat l (k := 2) (by decide)
  have h01 : statusBlock l ≠ statusBlock l + 1#16 := fun h => by have := congrArg BitVec.toNat h; omega
  have h02 : statusBlock l ≠ statusBlock l + 2#16 := fun h => by have := congrArg BitVec.toNat h; omega
  have h12 : statusBlock l + 1#16 ≠ statusBlock l + 2#16 := fun h => by have := congrArg BitVec.toNat h; omega
  have hwf0 : (s.store (statusBlock l) v0).mem.wf = true := State.stored_wf _ _ hwf
  have hwf1 : ((s.store (statusBlock l) v0).store (statusBlock l + 1#16) v1).mem.wf = true := State.stored_wf _ _ hwf0
  refine ⟨?_, ?_, ?_⟩
  · rw [State.word_store_other _ _ h02, State.word_store_other _ _ h01]
    exact State.word_store_same v0 hwf (by omega)
  · rw [State.word_store_other _ _ h12]
    exact State.word_store_same v1 hwf0 (h1 ▸ by show _ < s.straps.memsize; omega)
  · exact State.word_store_same v2 hwf1 (h2 ▸ by show _ < s.straps.memsize; omega)

/-- Settles O46: the dismissal reads the packed PC word that entry stored, and the level it clears is the one that entry
has set. -/
theorem dismissalUndoesEntry : Obligations.DismissalUndoesEntry := by
  rintro s t u l hsbs hwf hon hrm rfl hact hentry hexec
  rw [interruptEntry_sixteen hsbs] at hentry
  obtain ⟨hac, hepc, hio⟩ := word_of_block hwf (pendingLevel s) s.ac (epcWord s) s.io
  have hdismisses : dismisses (pendingLevel s) t = true := by
    have hl := (pendingLevel s).isLt
    have hfield := field_of_lt (a := statusBlock (pendingLevel s) + 3#16)
      (by rw [statusBlock_add_toNat _ (by decide)]; omega)
    cases hentry
    rw [dismisses, hon, hfield, hsbs]
    rfl
  cases hentry
  rw [exec_jmpDismiss_of hdismisses, dismiss_allowed (violation_of_unrestricted (by
    rw [leaveLevel, if_pos hsbs, restricted]
    show (s.rm && _) = false
    rw [hrm, Bool.false_and]) _), leaveLevel, if_pos hsbs] at hexec
  cases hexec
  refine ⟨?_, ?_, ?_, clearLevel_setLevel hact, rfl, rfl, hac, hio⟩
  · exact (congrArg (BitVec.setWidth 16) hepc).trans (epcWord_pc s)
  · exact (congrArg (fun w => BitVec.getLsbD w 17) hepc).trans (epcWord_ov s)
  · exact (congrArg (fun w => BitVec.getLsbD w 16) hepc).trans (epcWord_extm s)

end Sys2Proof.EngineProofs
end

section
/-! Undefined instructions, the wait of an I/O transfer, the call on the device port and the pulses
(`60_exceptions.md` section 5, `48_iot.md`). -/

namespace Sys2Proof.TransferProofs
open Sys2Proof.Machine

/-! ### Undefined instructions (R184) -/

/-- Every instruction of the list R80 gives is answered by R184. -/
theorem exec_undefined {i : Instr} {s : State} (h : undefinedUnder s.straps i = true) :
    exec i s = (undefinedInstruction s).finish := by
  have option_absent (r : Res) (h1d : (!s.straps.opt1d) = true) :
      (if s.straps.opt1d then r else undefinedInstruction s) = undefinedInstruction s :=
    if_neg (ne_true_of_eq_false ((Bool.not_eq_true' _).mp h1d))
  cases i with
  | undef0 | sftUndef00 | sftUndef04 | sftUndef10 | sftUndef14 => rfl
  | lch | dch | tad | spc => exact congrArg Res.finish (option_absent _ h)
  | _ => exact nomatch h

/-- Settles O54. -/
theorem undefinedInstructions : Obligations.UndefinedInstructions := by
  intro i s hundef
  rw [exec_undefined hundef]
  rcases undefinedInstruction_cases s with ⟨hr, heq⟩ | ⟨hr, hstop, heq⟩ | ⟨hr, hstop, heq⟩ <;> rw [heq, hr]
  · exact ⟨fun _ => rfl, nofun, nofun⟩
  · exact ⟨nofun, fun _ _ => rfl, fun _ h => absurd (hstop.symm.trans h) nofun⟩
  · exact ⟨nofun, fun _ h => absurd (hstop.symm.trans h) nofun, fun _ _ => rfl⟩

/-! ### The wait (R151, R152) -/

/-- Settles O56. -/
theorem iotWaits : Obligations.IotWaits := by
  intro i s hw hr hioh
  obtain ⟨answer, -, heq⟩ := InvariantProofs.transfer_isAnswer hw
  rw [heq, iotIssue_again answer hr hioh]
  rcases waitOn_cases s with ⟨hios, heq⟩ | ⟨hios, hcpls, heq⟩ | ⟨hios, hcpls, heq⟩ <;> rw [heq]
  · exact ⟨fun _ => rfl, fun h => absurd (hios.symm.trans h) nofun, fun h => absurd (hios.symm.trans h) nofun⟩
  · exact ⟨fun h => absurd (hios.symm.trans h) nofun, fun _ hne => absurd hcpls hne, fun _ _ => rfl⟩
  · exact ⟨fun h => absurd (hios.symm.trans h) nofun, fun _ _ => rfl, fun _ hnil => absurd hnil hcpls⟩

/-! ### The device port (R150, R151) -/

theorem takeAnswer_eq (s : State) :
    takeAnswer s = { s with answers := s.answers.tail, draws := if s.answers = [] then s.draws + 1 else s.draws } := by
  unfold takeAnswer
  split
  next h => rw [h, if_pos rfl, List.tail_nil, ← h]
  next h => rw [h, if_neg (List.cons_ne_nil _ _), List.tail_cons]

/-- The machine as a call on the device port leaves it, for an answer that is present and forces no stop. -/
def afterCall (w c : Bool) (dev : BitVec 6) (s : State) : State :=
  acceptAnswer (nextAnswer s)
    (deviceActs (nextAnswer s) w c dev { startWait w (takeAnswer s) with lastCall := some ⟨s.ir, dev, s.io⟩ })

theorem deviceCall_present {s : State} (w c : Bool) (dev : BitVec 6) (h : (nextAnswer s).present = true) :
    deviceCall w c dev s = forcedStop (nextAnswer s) (afterCall w c dev s) :=
  if_neg (by rw [h]; decide)

theorem deviceCall_absent {s : State} (w c : Bool) (dev : BitVec 6) (h : (nextAnswer s).present = false) :
    deviceCall w c dev s = undefinedInstruction (takeAnswer s) :=
  if_pos (by rw [h]; rfl)

/-- A device starts exactly if it says so and just one of the bits W and C is set (R154). -/
theorem startDevice_eq (a : DevAnswer) (w c : Bool) (dev : BitVec 6) (s : State) :
    startDevice (a.starts && xor w c) dev s = { s with
      ios := if a.starts = true ∧ w ≠ c then false else s.ios
      cpls := if a.starts = true ∧ w ≠ c then oweCompletion dev s.cpls else s.cpls } := by
  have hiff : (a.starts && xor w c) = true ↔ a.starts = true ∧ w ≠ c := by
    rw [Bool.and_eq_true, bne_iff_ne]
  by_cases h : a.starts = true ∧ w ≠ c
  · rw [startDevice, if_pos (hiff.mpr h), if_pos h, if_pos h]
  · rw [startDevice, if_neg (mt hiff.mp h), if_neg h, if_neg h]

theorem acceptAnswer_eq (a : DevAnswer) (u : State) : acceptAnswer a u = { u with
    io := a.ioIn, pc := if a.skip then incrAddr u.pc else u.pc, sbsLvl := sbsEval u.sbsReq u.sbsAct } := by
  rw [acceptAnswer, State.skipIf_eq]
  rfl

/-- The frame of a call: what a present device finds and what the answer then writes. -/
theorem afterCall_eq (w c : Bool) (dev : BitVec 6) (s : State) {u : State}
    (hu : u = portActions (nextAnswer s).ports { issued w (takeAnswer s) with
      lastCall := some ⟨s.ir, dev, s.io⟩
      ios := if (nextAnswer s).starts = true ∧ w ≠ c then false else s.ios
      cpls := if (nextAnswer s).starts = true ∧ w ≠ c then oweCompletion dev s.cpls else s.cpls }) :
    afterCall w c dev s = { u with
      io := (nextAnswer s).ioIn
      pc := if (nextAnswer s).skip then incrAddr u.pc else u.pc
      sbsLvl := sbsEval u.sbsReq u.sbsAct } := by
  rw [afterCall, acceptAnswer_eq, deviceActs, startDevice_eq, hu, takeAnswer_eq]
  cases w <;> rfl

theorem exec_iot_first {w : Bool} {s : State} (c : Bool) (sub : BitVec 5) (dev : BitVec 6) (hr : restricted s = false)
    (hfirst : FirstIssue w s) : exec (.iot w c sub dev) s = (deviceCall w c dev s).finish :=
  congrArg Res.finish (iotIssue_first _ hr hfirst)

theorem undefinedInstruction_of_unrestricted {s : State} (hr : restricted s = false) :
    undefinedInstruction s = if s.straps.stopInst then .stop .rsrv s else .ok s := by
  rw [undefinedInstruction, hr]
  rfl

/-- Settles O57. -/
theorem externalIot : Obligations.ExternalIot := by
  rintro w c sub dev s t u v a hr hfirst rfl rfl hu rfl
  rw [exec_iot_first c sub dev hr hfirst, ← afterCall_eq w c dev s hu]
  have hrt : restricted (takeAnswer s) = false := by rw [takeAnswer_eq]; exact hr
  have hst : (takeAnswer s).straps = s.straps := by rw [takeAnswer_eq]
  refine ⟨fun hp hs => ?_, fun hp k hs => ?_, fun hp hs => ?_, fun hp hs => ?_, takeAnswer_eq s⟩
  · rw [deviceCall_present w c dev hp, forcedStop, hs]
    rfl
  · rw [deviceCall_present w c dev hp, forcedStop, hs]
    rfl
  · rw [deviceCall_absent w c dev hp, undefinedInstruction_of_unrestricted hrt, if_pos (hst ▸ hs)]
    rfl
  · rw [deviceCall_absent w c dev hp, undefinedInstruction_of_unrestricted hrt, if_neg (hst ▸ ne_true_of_eq_false hs)]
    rfl

/-! ### Pulses (R155 to R168) -/

theorem issued_eq (w : Bool) (s : State) : issued w s = { s with pc := (issued w s).pc, ioh := (issued w s).ioh } := by
  cases w <;> rfl

/-- The answer of a pulse of the CORE: the wait is started, the pulse acts, the masks are evaluated. -/
theorem corePulse_finish (w : Bool) (f : State → State) (s : State) : (corePulse w f s).finish =
    .next (f { s with pc := (issued w s).pc, ioh := (issued w s).ioh }).evalBreaks := by
  rw [← issued_eq]
  rfl

theorem corePulse_first {w : Bool} {s : State} (hr : restricted s = false) (hfirst : FirstIssue w s)
    (f : State → State) : (iotIssue w (corePulse w f) s).finish =
      .next (f { s with pc := (issued w s).pc, ioh := (issued w s).ioh }).evalBreaks := by
  rw [iotIssue_first _ hr hfirst, corePulse_finish]

/-- The same of a pulse that an option gives, where the option is there. -/
theorem optionPulse_first {w : Bool} {s : State} (hr : restricted s = false) (hfirst : FirstIssue w s) {has : Bool}
    (hhas : has = true) (other : State → Res) (f : State → State) :
    (iotIssue w (if has then corePulse w f else other) s).finish =
      .next (f { s with pc := (issued w s).pc, ioh := (issued w s).ioh }).evalBreaks := by
  rw [if_pos hhas, corePulse_first hr hfirst]

/-- A pulse whose option is absent has the other answer. -/
theorem pulse_other {w : Bool} {s : State} (hr : restricted s = false) (hfirst : FirstIssue w s) {has : Bool}
    (hhas : has = false) (answer other : State → Res) :
    (iotIssue w (if has then answer else other) s).finish = (other s).finish := by
  rw [if_neg (ne_true_of_eq_false hhas), iotIssue_first _ hr hfirst]

theorem channelOf_eq {sub : BitVec 5} {l : BitVec 4} (h : l.toNat = sub.toNat % 16) : channelOf sub = l :=
  BitVec.eq_of_toNat_eq ((BitVec.toNat_setWidth _ _).trans h.symm)

/-- Settles O58. -/
theorem channelPulses : Obligations.ChannelPulses := by
  rintro w c sub s t l hsbs hr hfirst rfl hl
  rw [issued_eq w s, ← channelOf_eq hl]
  have hpulse := optionPulse_first hr hfirst hsbs undefinedInstruction
  exact ⟨hpulse _, hpulse _, hpulse _, hpulse _⟩

theorem withRing_false (pf : BitVec 8) : withRing pf false = pf &&& 0o277#8 := BitVec.or_zero

theorem withRing_true (pf : BitVec 8) : withRing pf true = pf ||| 0o100#8 := by
  apply BitVec.eq_of_getLsbD_eq
  intro k hk
  simp only [withRing, BitVec.getLsbD_or, BitVec.getLsbD_and]
  interval_cases k <;> simp

/-- Settles O59. -/
theorem modePulses : Obligations.ModePulses := by
  rintro w c sub s t hr hfirst rfl
  have hpulse := corePulse_first hr hfirst
  rw [issued_eq w s]
  refine ⟨hpulse _, hpulse _, hpulse _, hpulse _, hpulse _, fun h1d => ?_⟩
  have hoption := optionPulse_first hr hfirst h1d
  refine ⟨hoption _ _, hoption _ _, hoption _ _, ?_, ?_, fun hsbs => ?_⟩
  · rw [← withRing_false]
    exact hoption _ _
  · rw [← withRing_true]
    exact hoption _ _
  · show (iotIssue w (if s.straps.opt1d then enterRestrictPulse w else _) s).finish = _
    rw [if_pos h1d, iotIssue_first _ hr hfirst, enterRestrictPulse, if_pos hsbs, corePulse_finish]
    rfl

/-- Settles O60. -/
theorem pulsesWithoutTheirOption : Obligations.PulsesWithoutTheirOption := by
  intro w c sub s hr hfirst
  have hundef : (undefinedInstruction s).finish = .next (if s.straps.stopInst then s.stopWith .rsrv else s) := by
    rw [undefinedInstruction_of_unrestricted hr]
    split <;> rfl
  refine ⟨fun h1d => ?_, fun hsbs => ?_⟩
  · have hdevice (answer : State → Res) (dev : BitVec 6) :
        (pulseOrDevice s.straps.opt1d answer w c dev s).finish = exec (.iot w c sub dev) s :=
      (pulse_other hr hfirst h1d _ _).trans (exec_iot_first c sub dev hr hfirst).symm
    refine ⟨hdevice _ _, hdevice _ _, hdevice _ _, hdevice _ _, hdevice _ _, hdevice _ _, fun as has => ?_,
      (pulse_other hr hfirst h1d _ _).trans hundef⟩
    refine (hdevice _ _).trans ((exec_iot_first c sub _ hr hfirst).trans ?_)
    have hanswer : nextAnswer s = ⟨true, s.io, false, none, false, []⟩ := by rw [nextAnswer, has]; rfl
    rw [deviceCall_present w c _ (by rw [hanswer]), afterCall_eq w c _ s rfl, hanswer, takeAnswer_eq, has]
    cases w <;> rfl
  · have hno (f : State → State) : (pulseOrUndefined s.straps.sbs16 f w s).finish = _ :=
      (pulse_other hr hfirst hsbs _ _).trans hundef
    exact ⟨hno _, hno _, hno _, hno _⟩

end Sys2Proof.TransferProofs
end

section
/-! The skip, shift, operate and special operate groups (`45_skip.md`, `46_shift.md`, `47_operate.md`). -/

namespace Sys2Proof.GroupProofs
open Sys2Proof.Machine

/-! ### Selectors (R126) -/

theorem sel_getLsbD_of_lt : ∀ n : BitVec 3, ∀ k < 6,
    (sel n).getLsbD k = decide (n ≠ 0#3 ∧ (n = 7#3 ∨ n.toNat = 6 - k)) := by decide

theorem sel_getLsbD (n : BitVec 3) (k : Nat) :
    (sel n).getLsbD k = decide (k < 6 ∧ n ≠ 0#3 ∧ (n = 7#3 ∨ n.toNat = 6 - k)) := by
  by_cases hk : k < 6
  · rw [sel_getLsbD_of_lt n k hk]
    simp only [hk, true_and]
  · rw [BitVec.getLsbD_of_ge _ _ (by omega)]
    simp only [hk, false_and, decide_false]

/-- The test of switches or flags: all the selected ones are off. -/
theorem and_sel_eq_zero {v : BitVec 6} {n : BitVec 3} (hn : n ≠ 0#3) :
    v &&& sel n = 0#6 ↔ ∀ k, k < 6 → (n = 7#3 ∨ n.toNat = 6 - k) → v.getLsbD k = false := by
  constructor
  · intro h k hk hsel
    have hbit := congrArg (fun x => BitVec.getLsbD x k) h
    rw [BitVec.getLsbD_and, sel_getLsbD, decide_eq_true ⟨hk, hn, hsel⟩, Bool.and_true, BitVec.getLsbD_zero] at hbit
    exact hbit
  · intro h
    apply BitVec.eq_of_getLsbD_eq
    intro k hk
    rw [BitVec.getLsbD_and, sel_getLsbD, BitVec.getLsbD_zero]
    by_cases hsel : n = 7#3 ∨ n.toNat = 6 - k
    · rw [h k hk hsel, Bool.false_and]
    · rw [decide_eq_false fun hall => hsel hall.2.2, Bool.and_false]

/-! ### The skip group (R126) -/

theorem programFlags_getLsbD (pf : BitVec 8) {k : Nat} (hk : k < 6) : (programFlags pf).getLsbD k = pf.getLsbD k := by
  rw [programFlags, BitVec.getLsbD_setWidth, decide_eq_true hk, Bool.true_and]

theorem flagTest_iff {v : BitVec 6} {n : BitVec 3} : (n != 0#3 && v &&& sel n == 0#6) = true ↔
    n ≠ 0#3 ∧ ∀ k, k < 6 → (n = 7#3 ∨ n.toNat = 6 - k) → v.getLsbD k = false := by
  rw [Bool.and_eq_true, bne_iff_ne, beq_iff_eq]
  exact and_congr_right and_sel_eq_zero

/-- The OR of the selected conditions. -/
theorem skipTests_iff (b : SkipBits) (s : State) : skipTests b s = true ↔
    ((s.straps.opt1d = true ∧ b.sni = true ∧ s.io ≠ 0#18) ∨ (b.spi = true ∧ s.io.getLsbD 17 = false) ∨
     (b.szo = true ∧ s.ov = false) ∨ (b.sma = true ∧ s.ac.getLsbD 17 = true) ∨
     (b.spa = true ∧ s.ac.getLsbD 17 = false) ∨ (b.sza = true ∧ s.ac = 0#18) ∨
     (b.sw ≠ 0#3 ∧ ∀ k, k < 6 → (b.sw = 7#3 ∨ b.sw.toNat = 6 - k) → s.ss.getLsbD k = false) ∨
     (b.fl ≠ 0#3 ∧ ∀ k, k < 6 → (b.fl = 7#3 ∨ b.fl.toNat = 6 - k) → s.pf.getLsbD k = false)) := by
  have hflags : (b.fl != 0#3 && programFlags s.pf &&& sel b.fl == 0#6) = true ↔
      b.fl ≠ 0#3 ∧ ∀ k, k < 6 → (b.fl = 7#3 ∨ b.fl.toNat = 6 - k) → s.pf.getLsbD k = false :=
    flagTest_iff.trans (and_congr_right fun _ => forall_congr' fun k => forall_congr' fun hk => by
      rw [programFlags_getLsbD _ hk])
  simp only [skipTests, Bool.or_eq_true, hflags, flagTest_iff (v := s.ss), Bool.and_eq_true, Bool.not_eq_true',
    bne_iff_ne, beq_iff_eq, signOf, and_assoc, or_assoc]

/-- Settles O48. -/
theorem skipGroup : Obligations.SkipGroup := by
  intro b s c hc
  have htests : skipTests b s = c := Bool.eq_iff_iff.mpr ((skipTests_iff b s).trans hc.symm)
  have hov : (s.ov && !b.szo) = if b.szo then false else s.ov := by
    cases b.szo
    · exact Bool.and_true _
    · exact Bool.and_false _
  have hpc : (if xor c b.inv then incrAddr s.pc else s.pc) = if c = b.inv then s.pc else incrAddr s.pc := by
    by_cases h : c = b.inv
    · rw [h, Bool.xor_self, if_pos rfl]
      rfl
    · rw [if_neg h, if_pos (bne_iff_ne.mpr h)]
  show Host.Outcome.next { s.skipIf (xor (skipTests b s) b.inv) with ov := s.ov && !b.szo } = _
  rw [htests, hov, State.skipIf_eq, hpc]

/-! ### The count (R130) -/

theorem onesBelow_eq_countP (v : BitVec 9) (n : Nat) : onesBelow v n = (List.range n).countP fun k => v.getLsbD k := by
  induction n with
  | zero => rfl
  | succ n ih =>
    rw [onesBelow, ih, List.range_succ, List.countP_append, List.countP_singleton]
    cases v.getLsbD n <;> rfl

theorem shiftCount_eq_countP (code : BitVec 9) : shiftCount code = (List.range 9).countP fun k => code.getLsbD k :=
  onesBelow_eq_countP code 9

theorem shiftCount_le (code : BitVec 9) : shiftCount code ≤ 9 := by
  rw [shiftCount_eq_countP]
  exact List.countP_le_length.trans_eq List.length_range

/-! ### Places moved from one register into another

Every shift of the group is the word `x` moved `n` places, with the places it leaves filled from the word `y`. -/

theorem movedLeft_getLsbD (x y : Word) {n i : Nat} (hi : i < 18) :
    ((x <<< n) ||| (y >>> (18 - n))).getLsbD i = if i < n then y.getLsbD (18 - n + i) else x.getLsbD (i - n) := by
  rw [BitVec.getLsbD_or, BitVec.getLsbD_shiftLeft, BitVec.getLsbD_ushiftRight, decide_eq_true hi]
  split
  next h => rw [decide_eq_true h]; rfl
  next h => rw [decide_eq_false h, BitVec.getLsbD_of_ge y _ (by omega), Bool.or_false]; rfl

theorem movedRight_getLsbD (x y : Word) {n i : Nat} (hn : n ≤ 18) (hi : i < 18) :
    ((x >>> n) ||| (y <<< (18 - n))).getLsbD i = if i + n < 18 then x.getLsbD (i + n) else y.getLsbD (i + n - 18) := by
  rw [BitVec.getLsbD_or, BitVec.getLsbD_shiftLeft, BitVec.getLsbD_ushiftRight, decide_eq_true hi]
  split
  next h => rw [decide_eq_true (by omega : i < 18 - n), add_comm]; exact Bool.or_false _
  next h =>
    rw [decide_eq_false (by omega : ¬i < 18 - n), BitVec.getLsbD_of_ge x _ (by omega), Bool.false_or]
    exact congrArg y.getLsbD (by omega)

/-- A bit of the pair AC, IO. -/
theorem pair_getLsbD (a i : Word) (k : Nat) : (a ++ i).getLsbD k = if k < 18 then i.getLsbD k else a.getLsbD (k - 18) :=
  BitVec.getLsbD_append

theorem pairMovedLeft_getLsbD (a i y : Word) {n k : Nat} (hn : n ≤ 18) (hk : k < 36) :
    (((a <<< n) ||| (i >>> (18 - n))) ++ ((i <<< n) ||| (y >>> (18 - n)))).getLsbD k =
      if k < n then y.getLsbD (18 - n + k) else (a ++ i).getLsbD (k - n) := by
  rw [pair_getLsbD, pair_getLsbD]
  by_cases hlow : k < 18
  · rw [if_pos hlow, movedLeft_getLsbD i y hlow, if_pos (by omega : k - n < 18)]
  · rw [if_neg hlow, movedLeft_getLsbD a i (by omega), if_neg (by omega : ¬k < n)]
    by_cases hin : k - 18 < n
    · rw [if_pos hin, if_pos (by omega)]
      exact congrArg i.getLsbD (by omega)
    · rw [if_neg hin, if_neg (by omega)]
      exact congrArg a.getLsbD (by omega)

theorem pairMovedRight_getLsbD (a i y : Word) {n k : Nat} (hn : n ≤ 18) (hk : k < 36) :
    (((a >>> n) ||| (y <<< (18 - n))) ++ ((i >>> n) ||| (a <<< (18 - n)))).getLsbD k =
      if k + n < 36 then (a ++ i).getLsbD (k + n) else y.getLsbD (k + n - 36) := by
  rw [pair_getLsbD, pair_getLsbD]
  by_cases hlow : k < 18
  · rw [if_pos hlow, movedRight_getLsbD i a hn hlow, if_pos (by omega : k + n < 36)]
  · rw [if_neg hlow, movedRight_getLsbD a y hn (by omega), if_neg (by omega : ¬k + n < 18)]
    by_cases hin : k - 18 + n < 18
    · rw [if_pos hin, if_pos (by omega)]
      exact congrArg a.getLsbD (by omega)
    · rw [if_neg hin, if_neg (by omega)]
      exact congrArg y.getLsbD (by omega)

/-! ### The rotates (R132 to R134, R138 to R140) -/

theorem rotLeft_getLsbD (r : Word) {n k : Nat} (hn : n ≤ 18) (hk : k < 18) :
    (rotLeft r n).getLsbD ((k + n) % 18) = r.getLsbD k := by
  rw [rotLeft, movedLeft_getLsbD r r (Nat.mod_lt _ (by decide))]
  split <;> exact congrArg r.getLsbD (by omega)

theorem rotRight_getLsbD (r : Word) {n k : Nat} (hn : n ≤ 18) (hk : k < 18) :
    (rotRight r n).getLsbD k = r.getLsbD ((k + n) % 18) := by
  rw [rotRight, movedRight_getLsbD r r hn hk]
  split <;> exact congrArg r.getLsbD (by omega)

theorem pairRotLeft_getLsbD (a i : Word) {n k : Nat} (hn : n ≤ 18) (hk : k < 36) :
    ((pairRotLeft a i n).1 ++ (pairRotLeft a i n).2).getLsbD ((k + n) % 36) = (a ++ i).getLsbD k := by
  refine (pairMovedLeft_getLsbD a i a hn (Nat.mod_lt _ (by decide))).trans ?_
  split
  next h =>
    rw [pair_getLsbD, if_neg (by omega)]
    exact congrArg a.getLsbD (by omega)
  next h => exact congrArg (a ++ i).getLsbD (by omega)

theorem pairRotRight_getLsbD (a i : Word) {n k : Nat} (hn : n ≤ 18) (hk : k < 36) :
    ((pairRotRight a i n).1 ++ (pairRotRight a i n).2).getLsbD k = (a ++ i).getLsbD ((k + n) % 36) := by
  refine (pairMovedRight_getLsbD a i i hn hk).trans ?_
  split
  next h => rw [Nat.mod_eq_of_lt h]
  next h =>
    rw [pair_getLsbD, if_pos (by omega)]
    exact congrArg i.getLsbD (by omega)

/-- Settles O49. -/
theorem rotateResults : Obligations.RotateResults := by
  rintro code s n hcount
  have hn : n ≤ 18 := by
    have := shiftCount_le code
    rw [shiftCount_eq_countP, ← hcount] at this
    omega
  rw [← shiftCount_eq_countP] at hcount
  subst hcount
  exact ⟨_, _, _, _, _, _, _, _, rfl, rfl, rfl, rfl, rfl, rfl,
    fun k hk => ⟨rotLeft_getLsbD _ hn hk, rotLeft_getLsbD _ hn hk, rotRight_getLsbD _ hn hk,
      rotRight_getLsbD _ hn hk⟩,
    fun k hk => ⟨pairRotLeft_getLsbD _ _ hn hk, pairRotRight_getLsbD _ _ hn hk⟩⟩

/-! ### The arithmetic shifts (R135 to R137, R141 to R143) -/

theorem fill_getLsbD (r : Word) {k : Nat} (hk : k < 18) : (fill r).getLsbD k = r.getLsbD 17 := by
  have hmask : dmask.getLsbD k = true := by interval_cases k <;> rfl
  rw [fill, signOf]
  cases r.getLsbD 17
  · exact BitVec.getLsbD_zero
  · exact hmask

theorem sign_getLsbD {k : Nat} (hk : k < 18) : (0o400000#18).getLsbD k = decide (k = 17) := by
  interval_cases k <;> rfl

theorem magnitude_getLsbD {k : Nat} (hk : k < 18) : (0o377777#18).getLsbD k = decide (k < 17) := by
  interval_cases k <;> rfl

/-- A left shift that keeps the sign: bit 17 is the sign, the others are those of the move. -/
theorem keptSign_getLsbD (r y : Word) {n k : Nat} (hn : n ≤ 9) (hk : k < 18) :
    ((r &&& 0o400000#18) ||| ((r <<< n) &&& 0o377777#18) ||| (y >>> (18 - n))).getLsbD k =
      if k = 17 then r.getLsbD 17 else ((r <<< n) ||| (y >>> (18 - n))).getLsbD k := by
  rw [BitVec.getLsbD_or, BitVec.getLsbD_or, BitVec.getLsbD_or, BitVec.getLsbD_and, BitVec.getLsbD_and, sign_getLsbD hk,
    magnitude_getLsbD hk]
  split
  next h =>
    subst h
    rw [BitVec.getLsbD_ushiftRight, BitVec.getLsbD_of_ge y _ (by omega), Bool.or_false]
    simp
  next h => simp [h, (by omega : k < 17)]

theorem arithLeft_sign (r : Word) {n : Nat} (hn : n ≤ 9) : (arithLeft r n).getLsbD 17 = r.getLsbD 17 := by
  rw [arithLeft, keptSign_getLsbD r _ hn (by decide), if_pos rfl]

theorem arithLeft_getLsbD (r : Word) {n k : Nat} (hn : n ≤ 9) (hk : k < 17) :
    (arithLeft r n).getLsbD k = if k < n then r.getLsbD 17 else r.getLsbD (k - n) := by
  rw [arithLeft, keptSign_getLsbD r _ hn (by omega), if_neg (by omega), movedLeft_getLsbD r _ (by omega)]
  split
  next h => exact fill_getLsbD r (by omega)
  next h => rfl

theorem arithRight_getLsbD (r : Word) {n k : Nat} (hn : n ≤ 9) (hk : k < 18) :
    (arithRight r n).getLsbD k = if k + n < 18 then r.getLsbD (k + n) else r.getLsbD 17 := by
  rw [arithRight, movedRight_getLsbD r _ (by omega) hk]
  split
  next h => rfl
  next h => exact fill_getLsbD r (by omega)

theorem pairArithLeft_getLsbD (a i : Word) {n k : Nat} (hn : n ≤ 9) (hk : k < 35) :
    ((pairArithLeft a i n).1 ++ (pairArithLeft a i n).2).getLsbD k =
      if k < n then a.getLsbD 17 else (a ++ i).getLsbD (k - n) := by
  have hmoved := pairMovedLeft_getLsbD a i (fill a) (n := n) (k := k) (by omega) (by omega)
  have hsame : ((pairArithLeft a i n).1 ++ (pairArithLeft a i n).2).getLsbD k =
      (((a <<< n) ||| (i >>> (18 - n))) ++ ((i <<< n) ||| (fill a >>> (18 - n)))).getLsbD k := by
    rw [pair_getLsbD, pair_getLsbD]
    split
    next => rfl
    next h => rw [pairArithLeft, keptSign_getLsbD a i hn (by omega), if_neg (by omega)]
  rw [hsame, hmoved]
  split
  next h => exact fill_getLsbD a (by omega)
  next h => rfl

theorem pairArithRight_getLsbD (a i : Word) {n k : Nat} (hn : n ≤ 9) (hk : k < 36) :
    ((pairArithRight a i n).1 ++ (pairArithRight a i n).2).getLsbD k =
      if k + n < 36 then (a ++ i).getLsbD (k + n) else a.getLsbD 17 := by
  refine (pairMovedRight_getLsbD a i (fill a) (by omega) hk).trans ?_
  split
  next h => rfl
  next h => exact fill_getLsbD a (by omega)

/-- Settles O50. -/
theorem arithmeticShiftResults : Obligations.ArithmeticShiftResults := by
  intro code s n hcount
  rw [← shiftCount_eq_countP] at hcount
  have hn : n ≤ 9 := hcount ▸ shiftCount_le code
  subst hcount
  exact ⟨_, _, _, _, _, _, _, _, rfl, rfl, rfl, rfl, rfl, rfl, arithLeft_sign _ hn, arithLeft_sign _ hn,
    (keptSign_getLsbD s.ac s.io hn (by decide)).trans (if_pos rfl),
    fun k hk => ⟨arithLeft_getLsbD _ hn hk, arithLeft_getLsbD _ hn hk⟩,
    fun k hk => ⟨arithRight_getLsbD _ hn hk, arithRight_getLsbD _ hn hk⟩,
    fun k hk => pairArithLeft_getLsbD _ _ hn hk, fun k hk => pairArithRight_getLsbD _ _ hn hk⟩

/-! ### Operate (R145 to R147) -/

theorem oprPf_getLsbD (b : OprBits) (pf : BitVec 8) (k : Nat) : (oprPf b pf).getLsbD k =
    if k < 6 ∧ b.fl ≠ 0#3 ∧ (b.fl = 7#3 ∨ b.fl.toNat = 6 - k) then b.set else pf.getLsbD k := by
  have hsel : ((sel b.fl).setWidth 8).getLsbD k =
      decide (k < 6 ∧ b.fl ≠ 0#3 ∧ (b.fl = 7#3 ∨ b.fl.toNat = 6 - k)) := by
    rw [BitVec.getLsbD_setWidth, sel_getLsbD, ← Bool.decide_and]
    exact decide_eq_decide.mpr ⟨fun h => h.2, fun h => ⟨by omega, h⟩⟩
  by_cases hk : k < 8
  · rw [oprPf]
    cases b.set
    · rw [if_neg Bool.false_ne_true, BitVec.getLsbD_and, BitVec.getLsbD_not, hsel, decide_eq_true hk, Bool.true_and]
      split
      next h => rw [decide_eq_true h]; exact Bool.and_false _
      next h => rw [decide_eq_false h]; exact Bool.and_true _
    · rw [if_pos rfl, BitVec.getLsbD_or, hsel]
      split
      next h => rw [decide_eq_true h, Bool.or_true]
      next h => rw [decide_eq_false h, Bool.or_false]
  · rw [BitVec.getLsbD_of_ge _ _ (by omega), BitVec.getLsbD_of_ge _ _ (by omega), if_neg fun h => by omega]

theorem exec_opr_of_noHalt {b : OprBits} (h : b.hlt = false) (s : State) : exec (.opr b) s = .next (operate b s) := by
  show (if b.hlt then haltOp (operate b s) else .ok (operate b s)).finish = _
  rw [h]
  rfl

theorem exec_opr_of_halt {b : OprBits} (h : b.hlt = true) (s : State) :
    exec (.opr b) s = (haltOp (operate b s)).finish := by
  show (if b.hlt then haltOp (operate b s) else .ok (operate b s)).finish = _
  rw [if_pos h]

/-- Settles O51. -/
theorem operateResult : Obligations.OperateResult := by
  rintro b s i0 a1 a2 a3 a4 p hhlt rfl rfl rfl rfl rfl hp
  have hpf : oprPf b s.pf = p := BitVec.eq_of_getLsbD_eq fun k _ => (oprPf_getLsbD b s.pf k).trans (hp k).symm
  rw [exec_opr_of_noHalt hhlt, operate, hpf]
  simp only [Bool.and_eq_true]
  rfl

/-- Settles O52. -/
theorem haltResult : Obligations.HaltResult := by
  intro b s t hhlt ht
  rw [exec_opr_of_noHalt rfl] at ht
  cases ht
  have hrestricted : restricted (operate b s) = restricted s := rfl
  rw [exec_opr_of_halt hhlt, haltOp, hrestricted]
  exact ⟨fun hr => by rw [if_pos hr]; rfl, fun hr => by rw [if_neg (ne_true_of_eq_false hr)]; rfl⟩

/-- Settles O53. -/
theorem specialOperateResult : Obligations.SpecialOperateResult := by
  intro bits s h1d
  have hexec (bits : BitVec 13) : exec (.spc bits) s = .next (specialOperate bits s) :=
    congrArg Res.finish (if_pos h1d)
  refine ⟨hexec 0#13, ?_⟩
  rintro r rfl hbits
  rw [hexec, specialOperate, if_neg hbits, State.skipIf_eq]

end Sys2Proof.GroupProofs
end

section
/-! What the arithmetic of the machine computes on signed values: ADD, SUB, the hardware multiply and the hardware
divide (`43_arith.md`). -/

namespace Sys2Proof.ArithmeticProofs
open Sys2Proof.Machine
open Sys2Proof.InstructionProofs

/-! ### One's-complement words as numbers (R14) -/

theorem signOf_eq (w : Word) : signOf w = decide (131072 ≤ w.toNat) := BitVec.msb_eq_decide w

theorem not_toNat (w : Word) : (~~~w).toNat = 262143 - w.toNat := by
  rw [BitVec.toNat_not]

theorem valueOf_eq (w : Word) : valueOf w = if 131072 ≤ w.toNat then (w.toNat : Int) - 262143 else w.toNat := by
  have hw := w.isLt
  rw [valueOf, signOf_eq, not_toNat]
  simp only [decide_eq_true_eq]
  split <;> omega

theorem valueOf_not (w : Word) : valueOf (~~~w) = -valueOf w := by
  have hw := w.isLt
  rw [valueOf_eq, valueOf_eq, not_toNat]
  split <;> split <;> omega

theorem absOf_toNat (w : Word) : (absOf w).toNat = if 131072 ≤ w.toNat then 262143 - w.toNat else w.toNat := by
  rw [absOf, signOf_eq, apply_ite BitVec.toNat, not_toNat]
  simp only [decide_eq_true_eq]

theorem absOf_lt (w : Word) : (absOf w).toNat < 2 ^ 17 := by
  have hw := w.isLt
  rw [absOf_toNat]
  split <;> omega

/-! ### ADD and SUB (R106, R107) -/

theorem addOverflows_iff (a b r : Word) : addOverflows a b r = true ↔
    ((131072 ≤ a.toNat ↔ 131072 ≤ b.toNat) ∧ ¬(131072 ≤ a.toNat ↔ 131072 ≤ r.toNat)) := by
  rw [MemoryReferenceProofs.addOverflows_eq]
  show (signOf a == signOf b && signOf a != signOf r) = true ↔ _
  simp only [signOf_eq, Bool.and_eq_true, beq_iff_eq, bne_iff_ne, ne_eq, decide_eq_decide]

/-- Minus zero and plus zero have one value. -/
theorem valueOf_cleanMinusZero (w : Word) : valueOf (cleanMinusZero w) = valueOf w := by
  rw [cleanMinusZero]
  split
  next h => rw [h]; decide
  next => rfl

theorem addSetsOv_iff (a b : Word) :
    addSetsOv a b = true ↔ (valueOf a + valueOf b < -131071 ∨ 131071 < valueOf a + valueOf b) := by
  have ha := a.isLt
  have hb := b.isLt
  rw [addSetsOv, addOverflows_iff, MemoryReferenceProofs.endAroundAdd_toNat, valueOf_eq, valueOf_eq]
  split <;> split <;> split <;> omega

/-- Where ADD does not overflow, the end-around sum stands for the sum. -/
theorem valueOf_endAroundAdd {a b : Word} (h : addSetsOv a b = false) :
    valueOf (endAroundAdd a b) = valueOf a + valueOf b := by
  have ha := a.isLt
  have hb := b.isLt
  have hrange := mt (addSetsOv_iff a b).mpr (ne_true_of_eq_false h)
  rw [valueOf_eq a, valueOf_eq b] at hrange ⊢
  rw [valueOf_eq, MemoryReferenceProofs.endAroundAdd_toNat]
  split at hrange <;> split at hrange <;> split <;> split <;> omega

/-- Settles O35. -/
theorem addAddsValues : Obligations.AddAddsValues := by
  refine fun a b => ⟨?_, addSetsOv_iff a b, fun h => ?_⟩
  · rw [addResult, cleanMinusZero]
    split
    next => decide
    next h => exact h
  · rw [addResult, valueOf_cleanMinusZero, valueOf_endAroundAdd h]

/-- Settles O37: SUB is ADD on the complemented accumulator, whose value is the negated one. -/
theorem subSubtractsValues : Obligations.SubSubtractsValues := by
  refine fun a b => ⟨by decide, ?_, fun h => ?_⟩
  · refine (addSetsOv_iff (~~~a) b).trans ?_
    rw [valueOf_not]
    omega
  · rw [subResult, valueOf_not, valueOf_endAroundAdd h, valueOf_not]
    omega

/-! ### Shifts of a pair, as numbers -/

theorem shiftPairRight_fst_toNat (a i : Word) : (shiftPairRight a i).1.toNat = a.toNat / 2 :=
  (BitVec.toNat_ushiftRight a 1).trans (Nat.shiftRight_eq_div_pow _ 1)

theorem shiftPairRight_snd_toNat (a i : Word) : (shiftPairRight a i).2.toNat = i.toNat / 2 + a.toNat % 2 * 2 ^ 17 := by
  have hi := i.isLt
  have htop : a.toNat <<< 17 % 2 ^ 18 = 2 ^ 17 * (a.toNat % 2) := by
    rw [Nat.shiftLeft_eq]
    omega
  show ((i >>> 1) ||| (a <<< 17)).toNat = _
  rw [BitVec.toNat_or, BitVec.toNat_ushiftRight, BitVec.toNat_shiftLeft, htop, Nat.shiftRight_eq_div_pow, Nat.lor_comm,
    ← Nat.two_pow_add_eq_or_of_lt (by omega)]
  omega

/-- A register moved one place left, with a bit coming in. -/
theorem shiftIn_toNat (a b : Word) (hb : b.toNat < 2) : ((a <<< 1) ||| b).toNat = 2 * a.toNat % 2 ^ 18 + b.toNat := by
  have htop : a.toNat <<< 1 % 2 ^ 18 = 2 ^ 1 * (a.toNat % 2 ^ 17) := by
    rw [Nat.shiftLeft_eq]
    omega
  rw [BitVec.toNat_or, BitVec.toNat_shiftLeft, htop, ← Nat.two_pow_add_eq_or_of_lt (by omega)]
  omega

/-! ### The hardware multiply (R112) -/

/-- One pass: the pair is halved, after the bit it consumes has been replaced by `v` times the weight of AC. -/
theorem mulPass_pair {v ac : Word} (hv : v.toNat < 2 ^ 17) (hac : ac.toNat < 2 ^ 17) (io : Word) :
    let p := shiftPairRight (if io.getLsbD 0 then ac + v else ac) io
    p.1.toNat < 2 ^ 17 ∧ (∃ c, p.2.toNat = io.toNat / 2 + c * 2 ^ 17) ∧
      2 * (p.1.toNat * 2 ^ 18 + p.2.toNat) + io.toNat % 2 =
        ac.toNat * 2 ^ 18 + io.toNat + io.toNat % 2 * (v.toNat * 2 ^ 18) := by
  have hsum : (if io.getLsbD 0 then ac + v else ac).toNat = ac.toNat + io.toNat % 2 * v.toNat := by
    have hbit : io.getLsbD 0 = decide (io.toNat % 2 = 1) := Nat.testBit_zero _
    rw [hbit]
    rcases Nat.mod_two_eq_zero_or_one io.toNat with h | h <;> rw [h]
    · exact (Nat.zero_mul _).symm ▸ rfl
    · rw [if_pos (decide_eq_true rfl), BitVec.toNat_add]
      omega
  dsimp only
  rw [shiftPairRight_fst_toNat, shiftPairRight_snd_toNat, hsum]
  rcases Nat.mod_two_eq_zero_or_one io.toNat with h | h <;> rw [h] <;> exact ⟨by omega, ⟨_, rfl⟩, by omega⟩

/-- The passes of the multiply: `n` of them consume the low `n` bits of IO. -/
theorem mulLoop_pair {v : Word} (hv : v.toNat < 2 ^ 17) {n : Nat} (hn : n ≤ 17) {ac : Word} (hac : ac.toNat < 2 ^ 17)
    (io : Word) :
    ((mulLoop n v ac io).1.toNat * 2 ^ 18 + (mulLoop n v ac io).2.toNat) * 2 ^ n + io.toNat % 2 ^ n =
      ac.toNat * 2 ^ 18 + io.toNat + io.toNat % 2 ^ n * (v.toNat * 2 ^ 18) := by
  induction n generalizing ac io with
  | zero =>
    rw [mulLoop, pow_zero, Nat.mod_one]
    dsimp only
    omega
  | succ n ih =>
    obtain ⟨hlt, ⟨c, hc⟩, hpass⟩ := mulPass_pair hv hac io
    rw [mulLoop]
    generalize shiftPairRight (if io.getLsbD 0 then ac + v else ac) io = p at hlt hc hpass ⊢
    have hlow : p.2.toNat % 2 ^ n = io.toNat / 2 % 2 ^ n := by
      obtain ⟨k, hk⟩ := Nat.exists_eq_add_of_le (Nat.le_of_succ_le hn)
      rw [hc, hk, pow_add, mul_comm (2 ^ n), ← mul_assoc, Nat.add_mul_mod_self_right]
    have hrest := ih (Nat.le_of_succ_le hn) hlt p.2
    rw [hlow] at hrest
    rw [pow_succ' 2 n, Nat.mod_mul]
    linarith

theorem xor_sign (a m : Word) : signOf (a ^^^ m) = true ↔ signOf a ≠ signOf m := by
  rw [signOf, BitVec.getLsbD_xor]
  exact bne_iff_ne

theorem or_ne_zero_iff (a b : Word) : (a ||| b != 0#18) = true ↔ ¬(a = 0#18 ∧ b = 0#18) := by
  rw [bne_iff_ne, ne_eq, BitVec.or_eq_zero_iff]

/-- Settles O40. -/
theorem mulIsExactProduct : Obligations.MulIsExactProduct := by
  intro ind y s
  refine ⟨endsWithoutOperand ind y s _, fun t hea hv => ?_⟩
  obtain ⟨hi, lo, hp⟩ : ∃ hi lo, mulLoop 17 (absOf (t.word t.ma)) 0#18 (absOf t.ac) = (hi, lo) := ⟨_, _, rfl⟩
  have hpair := mulLoop_pair (absOf_lt (t.word t.ma)) le_rfl (ac := 0#18) (by decide) (absOf t.ac)
  rw [hp, Nat.mod_eq_of_lt (absOf_lt t.ac), BitVec.toNat_zero] at hpair
  dsimp only at hpair
  refine ⟨hi, lo, by linarith, (finish_operand hea hv _).trans ?_⟩
  have hresult : mulResult t.ac (t.word t.ma) =
      if signOf t.ac ≠ signOf (t.word t.ma) ∧ ¬(hi = 0#18 ∧ lo = 0#18) then (~~~hi, ~~~lo) else (hi, lo) := by
    rw [mulResult, hp]
    simp only [Bool.and_eq_true, xor_sign, or_ne_zero_iff]
  refine (congrArg (fun p : Word × Word => Host.Outcome.next { t with mb := t.word t.ma, ac := p.1, io := p.2 })
    hresult).trans ?_
  split <;> rfl

/-! ### The hardware divide (R114)

The loop never restores: where the partial remainder has gone negative it adds the divisor back in the next pass. AC
then stands for the number `x` that a restoring divide would have there, less `2 * v`. -/

/-- The number that AC stands for, `t` being the sign of the pass before. -/
def StandsFor (v ac : Word) (t : Bool) (x : Nat) : Prop :=
  (ac.toNat + if t then 2 * v.toNat else 0) % 2 ^ 18 = x

/-- What a pass subtracts or adds. -/
def divTrial (v ac : Word) (t : Bool) : Word := if t then ac + v else ac - v

theorem divTrial_toNat {v ac : Word} {t : Bool} {x : Nat} (hac : StandsFor v ac t x) :
    (divTrial v ac t).toNat = (x + 2 ^ 18 - v.toNat) % 2 ^ 18 := by
  have hv := v.isLt
  unfold StandsFor at hac
  cases t
  · rw [divTrial, if_neg Bool.false_ne_true, BitVec.toNat_sub]
    rw [if_neg Bool.false_ne_true] at hac
    omega
  · rw [divTrial, if_pos rfl, BitVec.toNat_add]
    rw [if_pos rfl] at hac
    omega

/-- The trial is negative exactly where the divisor does not go into `x`. -/
theorem signOf_divTrial {v ac : Word} {t : Bool} {x : Nat} (hv : v.toNat < 2 ^ 17) (hx : x < 2 * v.toNat)
    (hac : StandsFor v ac t x) : signOf (divTrial v ac t) = decide (x < v.toNat) := by
  rw [signOf_eq, divTrial_toNat hac, decide_eq_decide]
  omega

/-- The remainder that a pass leaves, restored. -/
theorem restored_toNat {v ac : Word} {t : Bool} {x : Nat} (hv : v.toNat < 2 ^ 17) (hx : x < 2 * v.toNat)
    (hac : StandsFor v ac t x) :
    (if signOf (divTrial v ac t) then divTrial v ac t + v else divTrial v ac t).toNat =
      if x < v.toNat then x else x - v.toNat := by
  rw [signOf_divTrial hv hx hac, apply_ite BitVec.toNat, BitVec.toNat_add, divTrial_toNat hac]
  simp only [decide_eq_true_eq]
  split <;> omega

/-- A pass that is not the last shifts the trial; AC then stands for twice the restored remainder and the bit of IO. -/
theorem standsFor_shifted {v ac io : Word} {t : Bool} {x : Nat} (hv : v.toNat < 2 ^ 17) (hx : x < 2 * v.toNat)
    (hac : StandsFor v ac t x) :
    StandsFor v ((divTrial v ac t <<< 1) ||| (io >>> 17)) (signOf (divTrial v ac t))
      (2 * (if x < v.toNat then x else x - v.toNat) + io.toNat / 2 ^ 17) := by
  have hio := io.isLt
  have hbit : (io >>> 17).toNat = io.toNat / 2 ^ 17 :=
    (BitVec.toNat_ushiftRight io 17).trans (Nat.shiftRight_eq_div_pow _ 17)
  unfold StandsFor
  rw [shiftIn_toNat _ _ (by omega), hbit, signOf_divTrial hv hx hac, divTrial_toNat hac]
  simp only [decide_eq_true_eq]
  split <;> omega

/-- IO after a pass: one place up, with the quotient bit at the end. -/
def divQuotient (io : Word) (t : Bool) : Word := (io <<< 1) ||| (BitVec.ofBool (!t)).setWidth 18

theorem divQuotient_toNat (io : Word) (t : Bool) :
    (divQuotient io t).toNat = 2 * io.toNat % 2 ^ 18 + if t then 0 else 1 := by
  cases t <;> exact shiftIn_toNat io _ (by decide)

theorem divLoop_last (v ac io : Word) (t : Bool) : divLoop 1 v ac io t =
    (divTrial v ac t, divQuotient io (signOf (divTrial v ac t)), signOf (divTrial v ac t)) := rfl

theorem divLoop_pass (n : Nat) (v ac io : Word) (t : Bool) : divLoop (n + 2) v ac io t =
    divLoop (n + 1) v ((divTrial v ac t <<< 1) ||| (io >>> 17)) (divQuotient io (signOf (divTrial v ac t)))
      (signOf (divTrial v ac t)) := rfl

/-- One pass on the pair `x`, IO: it is doubled, and a divisor that goes into `x` is exchanged for a quotient bit. -/
theorem divPass_pair (v io : Word) {x : Nat} {t : Bool} (ht : t = decide (x < v.toNat)) :
    ∃ q < 2, (2 * (if x < v.toNat then x else x - v.toNat) + io.toNat / 2 ^ 17) * 2 ^ 18 + (divQuotient io t).toNat +
      q * (2 ^ 19 * v.toNat) = 2 * (x * 2 ^ 18 + io.toNat) + q := by
  have hio := io.isLt
  refine ⟨if t then 0 else 1, by split <;> decide, ?_⟩
  rw [divQuotient_toNat, ht]
  simp only [decide_eq_true_eq]
  split <;> omega

/-- What the passes of the divide leave of the pair `x`, IO: the remainder `r`, and in IO the quotient `q`, shifted in
from the right, while the bits of IO have moved up (`b` is the last of them that went out). -/
theorem divLoop_pair {v : Word} (hv : v.toNat < 2 ^ 17) (n : Nat) {ac : Word} (io : Word) {t : Bool} {x : Nat}
    (hx : x < 2 * v.toNat) (hac : StandsFor v ac t x) :
    ∃ a i u, divLoop (n + 1) v ac io t = (a, i, u) ∧ ∃ q b, q < 2 ^ (n + 1) ∧ b < 2 ∧
      (if u then a + v else a).toNat < v.toNat ∧
      (2 * (if u then a + v else a).toNat + b) * 2 ^ 18 + i.toNat + q * (2 ^ 19 * v.toNat) =
        2 ^ (n + 1) * (x * 2 ^ 18 + io.toNat) + q := by
  have hio := io.isLt
  induction n generalizing ac io t x with
  | zero =>
    obtain ⟨q, hq, hpass⟩ := divPass_pair v io (signOf_divTrial hv hx hac)
    refine ⟨_, _, _, divLoop_last v ac io t, q, io.toNat / 2 ^ 17, hq, by omega, ?_⟩
    rw [restored_toNat hv hx hac]
    exact ⟨by split <;> omega, hpass⟩
  | succ n ih =>
    obtain ⟨q, hq, hpass⟩ := divPass_pair v io (signOf_divTrial hv hx hac)
    have hrem : (if x < v.toNat then x else x - v.toNat) < v.toNat := by split <;> omega
    have hnext := standsFor_shifted (io := io) hv hx hac
    obtain ⟨a, i, u, heq, q1, b, hq1, hb, hlt, hpair⟩ := ih (divQuotient io (signOf (divTrial v ac t)))
      (by omega) hnext (BitVec.isLt _)
    refine ⟨a, i, u, (divLoop_pass n v ac io t).trans heq, 2 ^ (n + 1) * q + q1, b, ?_, hb, hlt, ?_⟩
    · have hle : 2 ^ (n + 1) * q ≤ 2 ^ (n + 1) * 1 := Nat.mul_le_mul_left _ (Nat.le_of_lt_succ hq)
      rw [pow_succ 2 (n + 1)]
      omega
    · have hscaled := congrArg (fun k => 2 ^ (n + 1) * k) hpass
      rw [pow_succ 2 (n + 1)]
      linarith

/-- A magnitude with a sign put on, but for zero (R112, R114). -/
def withSign (c : Bool) (m : Word) : Word := if c && m != 0#18 then ~~~m else m

theorem absOf_withSign {m : Word} (hm : m.toNat < 2 ^ 17) (c : Bool) : absOf (withSign c m) = m := by
  apply BitVec.eq_of_toNat_eq
  rw [absOf_toNat, withSign]
  split
  next => rw [not_toNat, if_pos (by omega)]; omega
  next => rw [if_neg (by omega)]

theorem signOf_withSign {m : Word} (hm : m.toNat < 2 ^ 17) {c : Bool} (h : withSign c m ≠ 0#18) :
    signOf (withSign c m) = c ∧ withSign c m ≠ 0o777777#18 := by
  rw [withSign] at h ⊢
  cases c
  · rw [Bool.false_and, if_neg Bool.false_ne_true] at h ⊢
    refine ⟨?_, fun hm' => ?_⟩
    · rw [signOf_eq, decide_eq_false (by omega)]
    · rw [hm'] at hm
      exact absurd hm (by decide)
  · have hzero : m ≠ 0#18 := fun h0 => h (by rw [h0]; rfl)
    have hpos : m.toNat ≠ 0 := fun h0 => hzero (BitVec.eq_of_toNat_eq h0)
    rw [Bool.true_and, if_pos (bne_iff_ne.mpr hzero)]
    refine ⟨?_, fun hm' => ?_⟩
    · rw [signOf_eq, not_toNat, decide_eq_true (by omega)]
    · have := congrArg BitVec.toNat hm'
      rw [not_toNat, BitVec.toNat_ofNat] at this
      omega

theorem signOf_xor (a b : Word) : signOf (a ^^^ b) = (signOf a != signOf b) := BitVec.getLsbD_xor

/-- The quotient and the remainder of the magnitudes, with their signs. -/
theorem divResult_eq {ac m : Word} (io : Word) (h : absOf ac < absOf m) : ∃ q r : Word,
    divResult ac io m = (withSign (signOf ac != signOf m) q, withSign (signOf ac) r) ∧
    q.toNat < 2 ^ 17 ∧ r.toNat < (absOf m).toNat ∧
    q.toNat * (absOf m).toNat + r.toNat =
      (absOf ac).toNat * 2 ^ 17 + (if signOf ac then ~~~io else io).toNat / 2 := by
  have hv := absOf_lt m
  have hlt : (absOf ac).toNat < (absOf m).toNat := h
  obtain ⟨a, i, u, heq, q, b, hq, hb, hr, hpair⟩ := divLoop_pair hv 17 (ac := absOf ac) (t := false)
    (if signOf ac then ~~~io else io) (x := (absOf ac).toNat) (by omega) (Nat.mod_eq_of_lt (absOf ac).isLt)
  have hi := i.isLt
  have hio := (if signOf ac then ~~~io else io : Word).isLt
  have hresult : divResult ac io m =
      (withSign (signOf ac != signOf m) i, withSign (signOf ac) (if u then a + absOf m else a)) := by
    have hloop : divLoop 18 (absOf m) (if signOf ac then ~~~ac else ac) (if signOf ac then ~~~io else io) false =
      (a, i, u) := heq
    rw [divResult, hloop, signOf_xor]
    rfl
  generalize (if signOf ac then ~~~io else io : Word) = d at heq hpair hio
  generalize (if u then a + absOf m else a : Word) = r at hr hpair hresult
  have hdivision : i.toNat = q ∧ q * (absOf m).toNat + r.toNat = (absOf ac).toNat * 2 ^ 17 + d.toNat / 2 := by
    have hweight : q * (2 ^ 19 * (absOf m).toNat) = 2 ^ 19 * (q * (absOf m).toNat) := Nat.mul_left_comm _ _ _
    omega
  obtain ⟨rfl, hdivision⟩ := hdivision
  refine ⟨i, r, hresult, ?_, hr, hdivision⟩
  by_contra hge
  have hle : 2 ^ 17 * (absOf m).toNat ≤ i.toNat * (absOf m).toNat := Nat.mul_le_mul_right _ (not_lt.mp hge)
  omega

/-- Settles O41. -/
theorem divIsDivision : Obligations.DivIsDivision := by
  intro ind y s
  refine ⟨endsWithoutOperand ind y s _, fun t hea hv => ⟨fun hle => ?overflow, fun hlt => ?divides⟩⟩
  case overflow =>
    exact (finish_operand hea hv _).trans (congrArg Host.Outcome.next (if_pos (decide_eq_true hle)))
  case divides =>
    have hno : divOverflows t.ac (t.word t.ma) = false := decide_eq_false (BitVec.not_le.mpr hlt)
    obtain ⟨q, r, heq, hq, hr, hdiv⟩ := divResult_eq t.io hlt
    have hr17 := hr.trans (absOf_lt (t.word t.ma))
    refine ⟨withSign (signOf t.ac != signOf (t.word t.ma)) q, withSign (signOf t.ac) r,
      (finish_operand hea hv _).trans ?_, ?_, ?_, signOf_withSign hq, signOf_withSign hr17⟩
    · refine (congrArg Host.Outcome.next (if_neg (ne_true_of_eq_false hno))).trans ?_
      exact congrArg (fun p : Word × Word => Host.Outcome.next
        { t with mb := t.word t.ma, ac := p.1, io := p.2, pc := incrAddr t.pc }) heq
    · rw [absOf_withSign hq, absOf_withSign hr17, hdiv]
    · rw [absOf_withSign hr17]
      exact hr

end Sys2Proof.ArithmeticProofs
end
